-- ==== Sys2Proof/Word.lean ====
section
/-! DEFINITION. The word type of the V3-64 (00_scope: a word is 8 bytes, the unit of voting) and its two constants
used by the knock (R190). -/

namespace Sys2Proof

/-- One memory or aperture word: 64 bits. -/
abbrev Word := BitVec 64

/-- The byte enables of one word: one bit per byte (R24). -/
abbrev Enables := BitVec 8

/-- The value of a set knock (R190). -/
def Word.ones : Word := 0xFFFFFFFFFFFFFFFF#64

/-- All eight byte enables set. -/
def Enables.all : Enables := 0xFF#8

end Sys2Proof
end

