-- ==== Sys2Proof/Config.lean ====
section
/-! DEFINITION. What an implementation of the V3-64 fixes (sizes stated by the spec) and the free values (opaque constants
with no body: nothing can be proved of what they are). -/

namespace Sys2Proof.Config

/-- Slots of the request table (00_scope, R25). -/
abbrev slots : Nat := 16

/-- Entries the repair queue holds at most (R107). -/
def queueDepth : Nat := 32

/-- Depth at which the scrub walker pauses (R132). -/
def queueHigh : Nat := 24

/-- Records the fault record list holds at most (R162). -/
def recordPlaces : Nat := 16

/-- Tick boundaries of the abort limit (R96). -/
def abortTicks : Nat := 16

/-- The most the run count reaches (R104). -/
def runLimit : Nat := 16

/-- The most a fault score reaches (R2). -/
def scoreMax : Nat := 1023

/-- Blocks of the span, by SPAN[1:0] (R49). -/
def spanBlocks (span : BitVec 2) : Nat := 262144 * 4 ^ span.toNat

/-- How many decisions one event may run one after another. No event makes as many ready (log 5): each decision lowers
2·(slots ISSUED and not awaiting) + 2·(repair claim pending + repair stage 0 to 2) + 2·(scrub op out) + (copy op out), at most 41. -/
def decisionBound : Nat := 128

/-- FREE VALUE (log 4). The choice the part makes where several things become ready together and the spec lets any of them
be first (R61, R95, R43, R6). The argument is the counter `freeIndex` of State. -/
opaque freeChoice : Nat → Nat

/-- FREE VALUE (log 7). Whether a read of KNOCK shows the idle timer after the restart its own acceptance makes (R192), or
before it (R196): the spec does not order the two. -/
opaque knockReadAfterRestart : Bool

end Sys2Proof.Config
end

