-- ==== Sys2Proof/Syntax.lean ====
section
/-! DEFINITION. The commands of the V3-64: one constructor per row of spec/opcode_table.json, with the row's operands. The
rows that are a write to one aperture word carry the request's tag and value (log 8). -/

namespace Sys2Proof

/-- A replica, and the port in front of it (00_scope). -/
inductive Replica where
  | a | b | c
  deriving DecidableEq, Repr

/-- One thing of a kind for each of A, B and C. -/
structure Tri (α : Type) where
  a : α
  b : α
  c : α
  deriving DecidableEq, Repr

/-- The three engines (00_scope). -/
inductive Engine where
  | repair | copy | scrub
  deriving DecidableEq, Repr

/-- A tag: a number 0 to 15 (R24). -/
abbrev Tag := Fin 16

/-- The straps sampled at hardware reset (00_scope, R22, R49, R105, R205). -/
structure Straps where
  span    : BitVec 2
  present : Tri Bool
  knockEn : Bool
  deriving DecidableEq, Repr

/-- The kind of a request with what a WRITE carries: one set of byte enables and one data word per word (R24). -/
inductive Access where
  | read
  | write (enables : List Enables) (data : List Word)
  deriving DecidableEq, Repr

/-- A request as presented on the upstream request channel (R24). -/
structure Request where
  tag     : Tag
  address : BitVec 32
  length  : Fin 16
  access  : Access
  deriving DecidableEq, Repr

/-- An answer of a bank (R90): data (for a read, the words on the response channel, of which the op's length are its data
words; for a write, an acknowledgement) or an error (log 21). -/
inductive BankAnswer where
  | data (words : Vector Word 8)
  | error
  deriving DecidableEq, Repr

/-- The commands. -/
inductive Instr where
  /-- HARDWARE_RESET: RESET_N is asserted and the straps are sampled (R22). -/
  | hardwareReset (straps : Straps)
  /-- REQUEST_ACCEPT: one presented request is accepted and checked (R26). -/
  | requestAccept (request : Request)
  /-- APERTURE_WRITE: a WRITE request to aperture word `word`, of any length and enables (R195). -/
  | apertureWrite (tag : Tag) (word : Fin 64) (length : Fin 16) (enables : List Enables) (data : List Word)
  /-- STAGE_WRITE: a write to STAGE0 to STAGE3 (R198). -/
  | stageWrite (tag : Tag) (stage : Fin 4) (value : Word)
  /-- THRESHOLDS: a write to THRESHOLDS (R7). -/
  | thresholds (tag : Tag) (value : Word)
  /-- TIMING: a write to TIMING (R130). -/
  | timing (tag : Tag) (value : Word)
  /-- HOUSEKEEPING: a write to HOUSEKEEPING (R199). -/
  | housekeeping (tag : Tag) (value : Word)
  /-- ALERT_ACK: a write to ALERT_ACK (R184). -/
  | alertAck (tag : Tag) (value : Word)
  /-- ALERT_ENABLE: a write to ALERT_ENABLE (R185). -/
  | alertEnable (tag : Tag) (value : Word)
  /-- RECORD_RELEASE: a write to RECORD_RELEASE (R170). -/
  | recordRelease (tag : Tag) (value : Word)
  /-- RETIRE: the RETIRE command (R12). -/
  | retire (tag : Tag) (value : Word)
  /-- REBUILD: the REBUILD command (R149). -/
  | rebuild (tag : Tag) (value : Word)
  /-- FILL: the FILL command (R143). -/
  | fill (tag : Tag) (value : Word)
  /-- COPY_ABORT: the COPY_ABORT command (R158). -/
  | copyAbort (tag : Tag) (value : Word)
  /-- REGION_SET: the REGION_SET command (R55). -/
  | regionSet (tag : Tag) (value : Word)
  /-- REGION_CLEAR: the REGION_CLEAR command (R57). -/
  | regionClear (tag : Tag) (value : Word)
  /-- SCORE_CLEAR: the SCORE_CLEAR command (R15). -/
  | scoreClear (tag : Tag) (value : Word)
  /-- QUEUE_FLUSH: the QUEUE_FLUSH command (R113). -/
  | queueFlush (tag : Tag) (value : Word)
  /-- MOVE_APERTURE: the MOVE_APERTURE command (R194). -/
  | moveAperture (tag : Tag) (value : Word)
  /-- SOFT_RESET: the SOFT_RESET command (R202). -/
  | softReset (tag : Tag) (value : Word)
  /-- CLOSE: a write to CLOSE (R193). -/
  | close (tag : Tag) (value : Word)
  /-- SESSION_IDLE_EXPIRY: the session idle timer expires (R192). -/
  | sessionIdleExpiry
  /-- RESPONSE_TAKEN: the upstream side takes the presented response (R45). -/
  | responseTaken
  /-- UPSTREAM_GRANT: the arbiter grants the offered slot (R36). -/
  | upstreamGrant
  /-- REPAIR_READ_GRANT: the repair engine's source read is granted (R117). -/
  | repairReadGrant
  /-- REPAIR_WRITE_GRANT: the repair write is granted (R119). -/
  | repairWriteGrant
  /-- REPAIR_VERIFY_GRANT: the repair read-back is granted (R121). -/
  | repairVerifyGrant
  /-- SCRUB_READ_GRANT: the scrub read is granted (R135). -/
  | scrubReadGrant
  /-- FILL_WRITE_GRANT: the fill write is granted (R145). -/
  | fillWriteGrant
  /-- REBUILD_READ_GRANT: the rebuild read is granted (R151). -/
  | rebuildReadGrant
  /-- REBUILD_WRITE_GRANT: the rebuild write is granted (R153). -/
  | rebuildWriteGrant
  /-- BANK_OP_ACCEPT: a bank accepts the op presented on its port (R89). -/
  | bankOpAccept (port : Replica)
  /-- PORT_ANSWER: an answer is taken on a port (R90). -/
  | portAnswer (port : Replica) (answer : BankAnswer)
  /-- BLOCK_CLAIM_GRANT: RT grants the pending claim of an engine (R40). -/
  | blockClaimGrant (engine : Engine)
  /-- PORT_TIMEOUT: the deadline of a port's head op expires (R95). -/
  | portTimeout (port : Replica)
  /-- ABORT_DONE: a rising ABORT_DONE on a port (R99). -/
  | abortDone (port : Replica)
  /-- PORT_DEAD: the abort limit of a port expires (R100). -/
  | portDead (port : Replica)
  /-- DECAY_EXPIRY: the decay timer expires (R10). -/
  | decayExpiry
  /-- SCRUB_INTERVAL_EXPIRY: the scrub interval timer expires (R132). -/
  | scrubIntervalExpiry
  /-- REPAIR_TAKE: the repair engine takes the head of the queue (R115). -/
  | repairTake
  /-- RESET_N_RELEASE: RESET_N is released (R186). -/
  | resetNRelease
  /-- ABORT_DONE_DEASSERT: a bank deasserts ABORT_DONE (R99). -/
  | abortDoneDeassert (port : Replica)
  deriving DecidableEq, Repr

end Sys2Proof
end

