-- ==== Sys2Proof/Decode.lean ====
section
/-! DEFINITION. The words of the table's rows. No row of spec/opcode_table.json gives bits (every "fields" is empty and there
is no "fixed"): the commands are events and requests, not encoded words. So no word spells a command. -/

namespace Sys2Proof

/-- The command a word of `nbits` bits spells by the table's bits: none, since the table gives no row any bits. -/
def decodeTableWord (_nbits _w : Nat) : Option Instr := none

end Sys2Proof
end

