-- ==== Sys2Proof/Machine/State.lean ====
section
/-! DEFINITION. The state of the V3-64: one structure per block, the names of the spec, plain data throughout, and the state
right after hardware reset. Block indices, scores and counts are Nat with the bounds of their rules (the invariants of
Safety.lean say that every step keeps them); aperture words and write data are bit vectors. -/

namespace Sys2Proof.Machine

open Sys2Proof

/-- A set of replicas. -/
abbrev ReplicaSet := Tri Bool

/-! ## Health monitor (chapter 1) -/

/-- The state of a health account (R1). -/
inductive AccountState where
  | healthy | suspect | retired | rebuilding
  deriving DecidableEq, Repr

/-- The retire reason (R1, R11). -/
inductive RetireReason where
  | none | command | score | portDead | absent | rebuildFailed
  deriving DecidableEq, Repr

/-- The health alert mode (R1, R21). -/
inductive AlertMode where
  | level | edge | entry
  deriving DecidableEq, Repr

/-- The kinds of charge (section 1.2). -/
inductive ChargeKind where
  | miscompare | readError | writeMissed | timeout | repairFailed
  deriving DecidableEq, Repr

/-- One health account (R1). -/
structure Account where
  state     : AccountState
  score     : Nat
  reason    : RetireReason
  alertMode : AlertMode
  deriving DecidableEq, Repr

/-- The health settings of THRESHOLDS (R7). -/
structure Thresholds where
  suspectAt  : Nat
  clearAt    : Nat
  retireAt   : Nat
  autoRetire : Bool
  deriving DecidableEq, Repr

/-- The health monitor: accounts, settings, and the decay timer as the ticks it still has to count (R1, R7, R9). -/
structure Health where
  accounts      : Tri Account
  thresholds    : Thresholds
  decayInterval : Nat
  decayTimer    : Nat
  deriving DecidableEq, Repr

/-- The account of a replica after hardware reset (R22). -/
def Account.reset (present : Bool) : Account where
  state := if present then .healthy else .retired
  score := 0
  reason := if present then .none else .absent
  alertMode := .level

/-- The health monitor after hardware reset (R7, R9, R22). -/
def Health.reset (present : Tri Bool) : Health where
  accounts := ⟨Account.reset present.a, Account.reset present.b, Account.reset present.c⟩
  thresholds := { suspectAt := 64, clearAt := 16, retireAt := 512, autoRetire := false }
  decayInterval := 4096
  decayTimer := 4096

/-! ## Request table (chapter 2) -/

/-- Direction of an access or an op (R24, R88). -/
inductive Kind where
  | read | write
  deriving DecidableEq, Repr

/-- The states of an occupied slot (R32); FREE is an empty place. -/
inductive SlotState where
  | waiting | ready | issued | answered
  deriving DecidableEq, Repr

/-- The route of a request (R29). -/
inductive Route where
  | memory | aperture
  deriving DecidableEq, Repr

/-- The read modes of a policy (R51). -/
inductive ReadMode where
  | vote | fast
  deriving DecidableEq, Repr

/-- The fast phase of a slot (R32). -/
inductive FastPhase where
  | none | first | fallback
  deriving DecidableEq, Repr

/-- The answer statuses (R32, R44). -/
inductive Status where
  | clean | corrected | single | partialWrite | failed | refused
  deriving DecidableEq, Repr

/-- The refusal reasons (R26, R44). -/
inductive Reason where
  | tagInUse | malformed | outOfSpan | apertureInvalid | filling
  deriving DecidableEq, Repr

/-- The answer of one replica as its requester records it (R32, R37): PENDING, OK with the data words of a read, ERROR, LOST. -/
inductive OpAnswer where
  | pending
  | ok (words : List Word)
  | error
  | lost
  deriving DecidableEq, Repr

/-- The role of an entry of a voter list (R62). -/
inductive Role where
  | voter | target
  deriving DecidableEq, Repr

/-- One entry of a voter list (R62). -/
structure VoterEntry where
  role   : Role
  answer : OpAnswer
  deriving DecidableEq, Repr

/-- The record of an occupied slot (R32). `targets` is the target set; `voters` the voter list of the phase last granted;
`firstAnswer` the first phase's replica and answer, kept for the fallback (R37); `awaiting` says that the slot is ISSUED with
its fallback grant still to come (R36). -/
structure Slot where
  state       : SlotState
  tag         : Tag
  kind        : Kind
  block       : Nat
  firstWord   : Nat
  length      : Nat
  enables     : List Enables
  data        : List Word
  route       : Route
  policy      : Option ReadMode
  fastPhase   : FastPhase
  firstAnswer : Option (Replica × OpAnswer)
  awaiting    : Bool
  targets     : ReplicaSet
  voters      : Tri (Option VoterEntry)
  status      : Option Status
  reason      : Option Reason
  failedMask  : BitVec 8
  words       : List Word
  deriving DecidableEq, Repr

/-- The number of a slot. -/
abbrev SlotId := Fin Config.slots

/-- A response on the upstream response channel (R44). A write and a refusal carry no mask and no words. -/
structure Response where
  tag        : Tag
  status     : Status
  reason     : Option Reason
  failedMask : Option (BitVec 8)
  words      : List Word
  deriving DecidableEq, Repr

/-- Where a presented response comes from (R43). -/
inductive ResponseSource where
  | slot (i : SlotId)
  | holding
  deriving DecidableEq, Repr

/-- What the response channel presents (R43). -/
structure Presented where
  source   : ResponseSource
  response : Response
  deriving DecidableEq, Repr

/-- What RT holds for one engine: its lock, its pending claim, and the draining hold its abandoned ops leave (R39 to R42). -/
structure EngineLock where
  held     : Option Nat
  claim    : Option Nat
  draining : Option Nat
  deriving DecidableEq, Repr

/-- The block lock set (R39). -/
structure Locks where
  repair : EngineLock
  copy   : EngineLock
  scrub  : EngineLock
  deriving DecidableEq, Repr

/-- The request table (R25 to R45). An empty place is a FREE slot. `holding` is the refusal holding place: the tag of a request
refused for TAG_IN_USE. -/
structure RequestTable where
  slots       : Vector (Option Slot) Config.slots
  holding     : Option Tag
  acceptOrder : List SlotId
  answerOrder : List SlotId
  channel     : Option Presented
  locks       : Locks
  deriving DecidableEq, Repr

/-- No lock, no claim, no draining hold. -/
def EngineLock.empty : EngineLock where
  held := none
  claim := none
  draining := none

/-- The request table after hardware reset (R47). -/
def RequestTable.reset : RequestTable where
  slots := Vector.replicate Config.slots none
  holding := none
  acceptOrder := []
  answerOrder := []
  channel := none
  locks := ⟨EngineLock.empty, EngineLock.empty, EngineLock.empty⟩

/-! ## Region table (chapter 3) -/

/-- A region descriptor (R51). -/
structure Descriptor where
  enabled : Bool
  first   : Nat
  last    : Nat
  mode    : ReadMode
  scrub   : Bool
  deriving DecidableEq, Repr

/-- The number of a descriptor. -/
abbrev RegionId := Fin 8

/-- The region table (R51, R52). -/
structure Regions where
  descriptors  : Vector Descriptor 8
  defaultScrub : Bool
  fillMark     : Option RegionId
  deriving DecidableEq, Repr

/-- A descriptor after hardware reset (R60). -/
def Descriptor.reset : Descriptor where
  enabled := false
  first := 0
  last := 0
  mode := .vote
  scrub := false

/-- The region table after hardware reset (R60). -/
def Regions.reset : Regions where
  descriptors := Vector.replicate 8 Descriptor.reset
  defaultScrub := false
  fillMark := none

/-! ## Replica ports and issue arbiter (chapter 5) -/

/-- The states of a port (R86). -/
inductive PortState where
  | off | ready | aborting
  deriving DecidableEq, Repr

/-- The owner of an op (R88). -/
inductive Owner where
  | slot (i : SlotId)
  | engine (e : Engine)
  deriving DecidableEq, Repr

/-- The origin of an op and of a record (R88, R162). -/
inductive Origin where
  | upstreamRead | upstreamWrite | scrub | repair | fill | rebuild
  deriving DecidableEq, Repr

/-- An op: what one grant issues to every port it targets (R88, R102). -/
structure Op where
  owner     : Owner
  kind      : Kind
  block     : Nat
  firstWord : Nat
  length    : Nat
  enables   : List Enables
  data      : List Word
  origin    : Origin
  deriving DecidableEq, Repr

/-- One entry of an issue list (R88). `deadline` is the tick boundaries left until the op's deadline (log 26); `accepted` says
that the bank has taken the op from the request channel (R89). -/
structure IssueEntry where
  op        : Op
  ownerGone : Bool
  deadline  : Nat
  accepted  : Bool
  deriving DecidableEq, Repr

/-- A port record (R86), with the level of the bank's ABORT_DONE input (R99). -/
structure Port where
  state      : PortState
  list       : List IssueEntry
  abortLimit : Option Nat
  abort      : Bool
  abortDone  : Bool
  deriving DecidableEq, Repr

/-- The replica port unit (R86, R92, R104). -/
structure Ports where
  port         : Tri Port
  replyTimeout : Nat
  runCount     : Nat
  deriving DecidableEq, Repr

/-- A port after hardware reset (R105); the bank's ABORT_DONE level is not the part's to reset (log 10). -/
def Port.reset (present abortDone : Bool) : Port where
  state := if present then .ready else .off
  list := []
  abortLimit := none
  abort := false
  abortDone := abortDone

/-- The replica port unit after hardware reset (R105). -/
def Ports.reset (present abortDone : Tri Bool) : Ports where
  port := ⟨Port.reset present.a abortDone.a, Port.reset present.b abortDone.b, Port.reset present.c abortDone.c⟩
  replyTimeout := 4
  runCount := 0

/-- The op an engine has in hand: none; ready for the arbiter, with the replicas it names where its rule fixes them then
(R117, R151, R153), of which the grant leaves out those that have retired since (R14); or granted, with the answer of each replica it counts. -/
inductive OpStage where
  | none
  | ready (named : ReplicaSet)
  | out (answers : Tri (Option OpAnswer))
  deriving DecidableEq, Repr

/-! ## Repair queue and repair engine (chapter 6) -/

/-- An entry of the repair queue (R107). -/
structure QueueEntry where
  block    : Nat
  mask     : ReplicaSet
  attempts : Nat
  deriving DecidableEq, Repr

/-- The phases of the active repair (R114). -/
inductive RepairPhase where
  | idle | claim | read | write | verify
  deriving DecidableEq, Repr

/-- The active repair (R114). `op` holds the answers of the phase's op: in VERIFY they are the verify set. `target` is the
rebuild target that the WRITE grant included (R119), while that rebuild lasts (R125). `targetReported` says that R120 has
reported a target failure (R122). -/
structure Repair where
  phase          : RepairPhase
  block          : Nat
  mask           : ReplicaSet
  attempts       : Nat
  sources        : ReplicaSet
  op             : OpStage
  values         : List Word
  writeSet       : Tri (Option OpAnswer)
  target         : Option Replica
  targetReported : Bool
  deriving DecidableEq, Repr

/-- IDLE: the record holds only its phase (R114, R127). The other fields stand at 0 or empty; of these QUEUE shows the block index,
which the spec gives no value in IDLE (log 32). -/
def Repair.idle : Repair where
  phase := .idle
  block := 0
  mask := ⟨false, false, false⟩
  attempts := 0
  sources := ⟨false, false, false⟩
  op := .none
  values := []
  writeSet := ⟨none, none, none⟩
  target := none
  targetReported := false

/-! ## Scrub walker (chapter 7) -/

/-- The walker states (R129). -/
inductive WalkerState where
  | off | waiting | claiming | reading | paused
  deriving DecidableEq, Repr

/-- The pause reasons (R129). -/
inductive PauseReason where
  | none | queueHigh | fewReplicas | noBlocks
  deriving DecidableEq, Repr

/-- The scrub walker and its settings (R129, R130). `timer` is the ticks the interval timer still has to count, none while it
is stopped. -/
structure Scrub where
  state     : WalkerState
  reason    : PauseReason
  pointer   : Nat
  passCount : Nat
  timer     : Option Nat
  op        : OpStage
  on        : Bool
  interval  : Nat
  deriving DecidableEq, Repr

/-- The scrub walker after hardware reset (R130, R138). -/
def Scrub.reset : Scrub where
  state := .off
  reason := .none
  pointer := 0
  passCount := 0
  timer := none
  op := .none
  on := false
  interval := 64

/-! ## Copy engine (chapter 8) -/

/-- The kind of the copy context, with the region of a FILL or the target of a REBUILD (R140). -/
inductive CopyKind where
  | none
  | fill (region : RegionId)
  | rebuild (target : Replica)
  deriving DecidableEq, Repr

/-- The states of the copy context (R140). -/
inductive CopyState where
  | idle | starting | running
  deriving DecidableEq, Repr

/-- The step of the current block (R140). -/
inductive CopyStep where
  | none | claim | read | write
  deriving DecidableEq, Repr

/-- How a copy ended (R140). -/
inductive CopyOutcome where
  | none | completed | abortedCommand | abortedTarget | abortedSources | abortedReset
  deriving DecidableEq, Repr

/-- The copy context (R140) and the op of its step. -/
structure Copy where
  kind      : CopyKind
  state     : CopyState
  step      : CopyStep
  pattern   : Word
  pointer   : Nat
  endBlock  : Nat
  skipCount : Nat
  values    : List Word
  outcome   : CopyOutcome
  op        : OpStage
  deriving DecidableEq, Repr

/-- The copy context after hardware reset (R160). -/
def Copy.reset : Copy where
  kind := .none
  state := .idle
  step := .none
  pattern := 0
  pointer := 0
  endBlock := 0
  skipCount := 0
  values := [0, 0, 0, 0, 0, 0, 0, 0]
  outcome := .none
  op := .none

/-! ## Fault records (chapter 9) -/

/-- The kinds of record (R162). -/
inductive RecordKind where
  | miscompare | divergent | readError | writeMissed | timeout | repairFailed | repairAbandoned | rebuildSkipped
  deriving DecidableEq, Repr

/-- A fault record (R162). -/
structure FaultRecord where
  sequence : Nat
  kind     : RecordKind
  origin   : Origin
  block    : Nat
  word     : Option Nat
  mask     : ReplicaSet
  repeats  : Nat
  queued   : Bool
  deriving DecidableEq, Repr

/-- The fault record list with its two counters (R162). -/
structure Records where
  list    : List FaultRecord
  nextSeq : Nat
  lost    : Nat
  deriving DecidableEq, Repr

/-- The fault record list after hardware reset (R172). -/
def Records.reset : Records where
  list := []
  nextSeq := 0
  lost := 0

/-! ## Alerts (chapter 10) -/

/-- One thing of a kind for each of the ten causes (section 10.1). -/
structure Causes (α : Type) where
  health         : Tri α
  retire         : α
  dataLoss       : α
  queueFull      : α
  degraded       : α
  recordsLost    : α
  copyDone       : α
  sessionExpired : α
  deriving DecidableEq, Repr

/-- The names of the ten causes (section 10.1). -/
inductive Cause where
  | health (r : Replica)
  | retire | dataLoss | queueFull | degraded | recordsLost | copyDone | sessionExpired
  deriving DecidableEq, Repr

/-- What the alert unit holds for a cause (R175): the latch, the condition last handed by its owner (for HEALTH_r the suspect
condition, in every mode) and the acknowledge flag. For an edge cause the last two stay clear. -/
structure CauseState where
  latch     : Bool
  condition : Bool
  acked     : Bool
  deriving DecidableEq, Repr

/-- The alert unit (R175): causes, enable mask, and whether ALERT_N is asserted. -/
structure Alerts where
  causes   : Causes CauseState
  enable   : Causes Bool
  asserted : Bool
  deriving DecidableEq, Repr

/-- A cause in CLEAR (R178, R180). -/
def CauseState.clear : CauseState where
  latch := false
  condition := false
  acked := false

/-- A level cause in ACTIVE (R180). -/
def CauseState.active : CauseState where
  latch := true
  condition := true
  acked := false

/-- The alert unit after hardware reset, while RESET_N is asserted (R185, R187): DEGRADED is ACTIVE when a replica is strapped
absent, and ALERT_N is released. -/
def Alerts.reset (present : Tri Bool) : Alerts where
  causes :=
    { health := ⟨.clear, .clear, .clear⟩
      retire := .clear
      dataLoss := .clear
      queueFull := .clear
      degraded := if present.a && present.b && present.c then .clear else .active
      recordsLost := .clear
      copyDone := .clear
      sessionExpired := .clear }
  enable :=
    { health := ⟨false, false, false⟩
      retire := false
      dataLoss := true
      queueFull := false
      degraded := true
      recordsLost := false
      copyDone := false
      sessionExpired := false }
  asserted := false

/-! ## Control session (chapter 11) -/

/-- The session states (R189). -/
inductive SessionState where
  | closed | armed | opened
  deriving DecidableEq, Repr

/-- The outcomes RESULT shows (R197). -/
inductive ResultOutcome where
  | none | done | busy | refusedState | refusedArgument | stale
  deriving DecidableEq, Repr

/-- The control session unit (R189, R200). `idleTimer` is the ticks left, none while it is stopped. -/
structure Session where
  state         : SessionState
  base          : Nat
  pendingBase   : Option Nat
  idleTimer     : Option Nat
  sessionIdle   : Nat
  resultWord    : Nat
  resultOutcome : ResultOutcome
  stages        : Vector Word 4
  deriving DecidableEq, Repr

/-- The control session unit after hardware reset (R205). -/
def Session.reset (span : BitVec 2) : Session where
  state := .closed
  base := Config.spanBlocks span * 64 - 512
  pendingBase := none
  idleTimer := none
  sessionIdle := 8192
  resultWord := 0
  resultOutcome := .none
  stages := Vector.replicate 4 0

/-! ## The whole part -/

/-- The straps as sampled and the level of RESET_N. -/
structure Pins where
  straps        : Straps
  resetAsserted : Bool
  deriving DecidableEq, Repr

/-- The state of the V3-64. `freeIndex` is the model's own counter for the free choices (log 25); `pending` the queue of
commands still to be taken, first in, first out (log 11). -/
structure State where
  pins      : Pins
  health    : Health
  rt        : RequestTable
  regions   : Regions
  ports     : Ports
  queue     : List QueueEntry
  repair    : Repair
  scrub     : Scrub
  copy      : Copy
  records   : Records
  alerts    : Alerts
  session   : Session
  freeIndex : Nat
  pending   : List Instr
  deriving DecidableEq, Repr

/-- The spec names no event that stops the part: a wrong answer, a dead port or an empty voting set is answered, charged and
recorded, and the part goes on. So there is no fault. -/
inductive Fault where
  deriving DecidableEq, Repr

/-- Why a command has no meaning. -/
inductive Refusal where
  /-- The row has no meaning in the model yet (raised by exec's arm alone; safe). No arm raises it. -/
  | notModelled (mnemonic : String)
  /-- REQUEST_ACCEPT or APERTURE_WRITE with lists of enables or data that do not have the stated length: no request of R24
  (log 17; safe). -/
  | illFormedRequest (mnemonic : String)
  deriving DecidableEq, Repr

/-- The straps of State.reset: a 16 MiB span, all three replicas present, KNOCK_EN high, as in chapter 12 (log 9). -/
def Straps.default : Straps where
  span := 0
  present := ⟨true, true, true⟩
  knockEn := true

/-- The state a hardware reset with these straps leaves, RESET_N still asserted, given the bank pins and the model's own
fields (R22, R47, R49, R60, R105, R127, R138, R160, R172, R187, R205). -/
def State.afterReset (straps : Straps) (abortDone : Tri Bool) (freeIndex : Nat) (pending : List Instr) : State where
  pins := ⟨straps, true⟩
  health := Health.reset straps.present
  rt := RequestTable.reset
  regions := Regions.reset
  ports := Ports.reset straps.present abortDone
  queue := []
  repair := Repair.idle
  scrub := Scrub.reset
  copy := Copy.reset
  records := Records.reset
  alerts := Alerts.reset straps.present
  session := Session.reset straps.span
  freeIndex := freeIndex
  pending := pending

/-- The machine right after reset: hardware reset done with the default straps and RESET_N released (log 9). With all three
replicas present no cause is latched, so ALERT_N stays released (R186, R187). -/
def State.reset : State :=
  { State.afterReset Straps.default ⟨false, false, false⟩ 0 [] with pins := ⟨Straps.default, false⟩ }

end Sys2Proof.Machine
end

