-- ==== Sys2Proof/Machine/Ops.lean ====
section
/-! DEFINITION. The named operations the whole model is written over: sets of replicas, accessors of accounts, ports and slots,
the voting set, the rebuild target, policy lookup and the scrub walker's choice. -/

namespace Sys2Proof

/-- The replicas in the order A, B, C (R75, R122, R146). -/
def Replica.all : List Replica := [.a, .b, .c]

/-- The number of a replica: 0 for A, 1 for B, 2 for C (section 11.4). -/
def Replica.number : Replica → Nat
  | .a => 0
  | .b => 1
  | .c => 2

/-- What a Tri holds for one replica. -/
def Tri.get {α : Type} (t : Tri α) : Replica → α
  | .a => t.a
  | .b => t.b
  | .c => t.c

/-- A Tri with one place replaced. -/
def Tri.set {α : Type} (t : Tri α) (r : Replica) (v : α) : Tri α :=
  match r with
  | .a => { t with a := v }
  | .b => { t with b := v }
  | .c => { t with c := v }

/-- The Tri of a function on replicas. -/
def Tri.ofFn {α : Type} (f : Replica → α) : Tri α := ⟨f .a, f .b, f .c⟩

/-- How many replicas a set holds. -/
def Tri.count (m : Tri Bool) : Nat := m.a.toNat + m.b.toNat + m.c.toNat

/-- Whether a set holds no replica. -/
def Tri.isEmpty (m : Tri Bool) : Bool := !(m.a || m.b || m.c)

/-- The replicas in both sets. -/
def Tri.inter (m n : Tri Bool) : Tri Bool := Tri.ofFn fun r => m.get r && n.get r

/-- The replicas in either set. -/
def Tri.union (m n : Tri Bool) : Tri Bool := Tri.ofFn fun r => m.get r || n.get r

/-- The replicas of the first set that are not in the second. -/
def Tri.diff (m n : Tri Bool) : Tri Bool := Tri.ofFn fun r => m.get r && !n.get r

/-- The set without one replica. -/
def Tri.without (m : Tri Bool) (r : Replica) : Tri Bool := m.set r false

/-- The set of no replica. -/
def Tri.nobody : Tri Bool := ⟨false, false, false⟩

/-- The set of one replica. -/
def Tri.only (r : Replica) : Tri Bool := Tri.nobody.set r true

/-- The set of a replica that may be absent. -/
def Tri.ofOption : Option Replica → Tri Bool
  | none => Tri.nobody
  | some r => Tri.only r

/-- The block of a request: word address divided by 8 (R24). -/
def Request.block (r : Request) : Nat := r.address.toNat / 8

/-- The first word of a request: word address modulo 8 (R24). -/
def Request.firstWord (r : Request) : Nat := r.address.toNat % 8

end Sys2Proof

namespace Sys2Proof.Machine

open Sys2Proof

/-! ## Accessors -/

/-- The account of a replica. -/
def State.account (s : State) (r : Replica) : Account := s.health.accounts.get r

/-- The state with the account of a replica replaced. -/
def State.setAccount (r : Replica) (a : Account) (s : State) : State :=
  { s with health := { s.health with accounts := s.health.accounts.set r a } }

/-- The port of a replica. -/
def State.port (s : State) (r : Replica) : Port := s.ports.port.get r

/-- The state with the port of a replica replaced. -/
def State.setPort (r : Replica) (p : Port) (s : State) : State :=
  { s with ports := { s.ports with port := s.ports.port.set r p } }

/-- A place of the request table: none when the slot is FREE. -/
def State.slot (s : State) (i : SlotId) : Option Slot := s.rt.slots[i]

/-- The state with a place of the request table replaced. -/
def State.setSlot (i : SlotId) (x : Option Slot) (s : State) : State :=
  { s with rt := { s.rt with slots := s.rt.slots.set i.val x i.isLt } }

/-- A vector with a function applied to each place (written through the list, which the kernel can evaluate). -/
def mapVector {α : Type} {n : Nat} (f : α → α) (v : Vector α n) : Vector α n := ⟨⟨v.toList.map f⟩, by simp⟩

/-- The numbers of the slots. -/
def SlotId.all : List SlotId := [0, 1, 2, 3, 4, 5, 6, 7, 8, 9, 10, 11, 12, 13, 14, 15]

/-- What RT holds for one engine. -/
def Locks.get (l : Locks) : Engine → EngineLock
  | .repair => l.repair
  | .copy => l.copy
  | .scrub => l.scrub

/-- The lock set with one engine's part replaced. -/
def Locks.set (l : Locks) (e : Engine) (x : EngineLock) : Locks :=
  match e with
  | .repair => { l with repair := x }
  | .copy => { l with copy := x }
  | .scrub => { l with scrub := x }

/-- What RT holds for one engine. -/
def State.lock (s : State) (e : Engine) : EngineLock := s.rt.locks.get e

/-- The state with one engine's part of the lock set replaced. -/
def State.setLock (e : Engine) (x : EngineLock) (s : State) : State :=
  { s with rt := { s.rt with locks := s.rt.locks.set e x } }

/-- The op an engine has in hand. -/
def State.engineOp (s : State) : Engine → OpStage
  | .repair => s.repair.op
  | .copy => s.copy.op
  | .scrub => s.scrub.op

/-- The state with an engine's op replaced. -/
def State.setEngineOp (e : Engine) (x : OpStage) (s : State) : State :=
  match e with
  | .repair => { s with repair := { s.repair with op := x } }
  | .copy => { s with copy := { s.copy with op := x } }
  | .scrub => { s with scrub := { s.scrub with op := x } }

/-! ## The span, the voting set and the rebuild target -/

/-- The number of blocks of the span (R49). -/
def State.spanBlocks (s : State) : Nat := Config.spanBlocks s.pins.straps.span

/-- The number of bytes of the span (R49). -/
def State.spanBytes (s : State) : Nat := s.spanBlocks * 64

/-- HEALTHY and SUSPECT vote (R19). -/
def Account.votes (a : Account) : Bool :=
  match a.state with
  | .healthy | .suspect => true
  | .retired | .rebuilding => false

/-- The voting set (R19). -/
def State.voting (s : State) : ReplicaSet := Tri.ofFn fun r => (s.account r).votes

/-- The number of members of the voting set. -/
def State.votingCount (s : State) : Nat := s.voting.count

/-- The rebuild target: the target of a REBUILD in STARTING or RUNNING (R16). -/
def State.rebuildTarget (s : State) : Option Replica :=
  match s.copy.kind, s.copy.state with
  | .rebuild r, .starting => some r
  | .rebuild r, .running => some r
  | _, _ => none

/-- The rebuild target that a write of this block includes: RUNNING, and the block below the rebuild pointer (R66, R119). -/
def State.writeTarget (s : State) (block : Nat) : Option Replica :=
  match s.copy.kind, s.copy.state with
  | .rebuild r, .running => if block < s.copy.pointer then some r else none
  | _, _ => none

/-- The replicas that vote or are the rebuild target (R99, R121). -/
def State.inUse (s : State) : ReplicaSet := s.voting.union (Tri.ofOption s.rebuildTarget)

/-! ## Policy (chapter 3) -/

/-- What a lookup returns (R53): read mode, scrub flag, and whether the block lies in the region named by the fill mark. -/
structure Policy where
  mode    : ReadMode
  scrub   : Bool
  filling : Bool
  deriving DecidableEq, Repr

/-- Whether an enabled descriptor covers a block (R51, R53). -/
def Descriptor.covers (d : Descriptor) (block : Nat) : Bool :=
  d.enabled && decide (d.first ≤ block) && decide (block ≤ d.last)

/-- Whether a block lies within the region named by the fill mark (R53, R58). -/
def Regions.filling (t : Regions) (block : Nat) : Bool :=
  match t.fillMark with
  | none => false
  | some n => t.descriptors[n].covers block

/-- A lookup (R53): the one enabled descriptor that covers the block, else the default policy (R52). -/
def Regions.lookup (t : Regions) (block : Nat) : Policy :=
  match t.descriptors.toList.find? (fun d => d.covers block) with
  | some d => { mode := d.mode, scrub := d.scrub, filling := t.filling block }
  | none => { mode := .vote, scrub := t.defaultScrub, filling := t.filling block }

/-- Whether the scrub walker may choose a block (R133). -/
def Regions.eligible (t : Regions) (block : Nat) : Bool :=
  let p := t.lookup block
  p.scrub && !p.filling

/-- Where eligibility can begin at or above a block: at the block itself, at a descriptor's first block, or just after a
descriptor's last block. -/
def Regions.candidates (t : Regions) (start : Nat) : List Nat :=
  start :: t.descriptors.toList.flatMap fun d => [d.first, d.last + 1]

/-- The eligible block of lowest index at or above `start` and below `blocks` (R133), if there is one. It looks only at the
blocks where eligibility can begin. -/
def Regions.nextEligible (t : Regions) (blocks start : Nat) : Option Nat :=
  ((t.candidates start).filter fun b => decide (start ≤ b) && decide (b < blocks) && t.eligible b).min?

/-! ## Arithmetic that saturates or wraps -/

/-- A score limited to 1023 (R2). -/
def limitScore (n : Nat) : Nat := min n Config.scoreMax

/-- One more, wrapping at 65536 (R129, R162). -/
def wrap16 (n : Nat) : Nat := (n + 1) % 65536

/-- One more, staying at 255 (R162, R166). -/
def saturate255 (n : Nat) : Nat := min (n + 1) 255

end Sys2Proof.Machine
end

