-- ==== Sys2Proof/Machine/Operands.lean ====
section
/-! DEFINITION. Bit fields of aperture words (section 11.6) and every operand a written value carries (sections 11.2 to 11.4,
R204). -/

namespace Sys2Proof

/-- The unsigned number in `width` positions of a word from position `low` (R204). -/
def Word.field (w : Word) (low width : Nat) : Nat := w.toNat / 2 ^ low % 2 ^ width

/-- One bit of a word. -/
def Word.bit (w : Word) (i : Nat) : Bool := w.getLsbD i

/-- A word from fields (low, width, value) that do not overlap; every other position reads as 0 (R196, R204). -/
def Word.ofFields (fields : List (Nat × Nat × Nat)) : Word :=
  BitVec.ofNat 64 (fields.foldr (fun f rest => f.2.2 % 2 ^ f.2.1 * 2 ^ f.1 + rest) 0)

end Sys2Proof

namespace Sys2Proof.Machine

open Sys2Proof

/-! ## Operands of command words (section 11.4, R204) -/

/-- A replica operand: the whole value; 0, 1 and 2 name a replica. -/
def replicaOperand (v : Word) : Option Replica :=
  match v.toNat with
  | 0 => some .a
  | 1 => some .b
  | 2 => some .c
  | _ => none

/-- A region operand: the whole value; 0 to 7 name a descriptor. -/
def regionOperand (v : Word) : Option RegionId :=
  if h : v.toNat < 8 then some ⟨v.toNat, h⟩ else none

/-- The read mode of STAGE2, bits 1:0 (section 11.6): 0 VOTE, 1 FAST, no other value. -/
def readModeOperand (v : Word) : Option ReadMode :=
  match v.field 0 2 with
  | 0 => some .vote
  | 1 => some .fast
  | _ => none

/-- The scrub flag of STAGE2, bits 3:2 (section 11.6): 0 off, 1 on, no other value. -/
def scrubOperand (v : Word) : Option Bool :=
  match v.field 2 2 with
  | 0 => some false
  | 1 => some true
  | _ => none

/-- A health alert mode field: 0 LEVEL, 1 EDGE, 2 ENTRY; 3 names none (section 11.6). -/
def alertModeOperand (n : Nat) : Option AlertMode :=
  match n with
  | 0 => some .level
  | 1 => some .edge
  | 2 => some .entry
  | _ => none

/-! ## Settings words (section 11.3) -/

/-- The fields of a value written to THRESHOLDS. -/
def thresholdsOperand (v : Word) : Thresholds where
  suspectAt := v.field 0 10
  clearAt := v.field 10 10
  retireAt := v.field 20 10
  autoRetire := v.bit 30

/-- The check on THRESHOLDS (R7, R199). -/
def Thresholds.valid (t : Thresholds) : Bool :=
  decide (t.clearAt < t.suspectAt) && decide (t.suspectAt < t.retireAt)

/-- The fields of TIMING (section 11.6). -/
structure TimingFields where
  replyTimeout  : Nat
  scrubInterval : Nat
  scrubOn       : Bool
  defaultScrub  : Bool
  deriving DecidableEq, Repr

/-- The fields of a value written to TIMING. -/
def timingOperand (v : Word) : TimingFields where
  replyTimeout := v.field 0 6
  scrubInterval := v.field 6 16
  scrubOn := v.bit 22
  defaultScrub := v.bit 23

/-- The check on TIMING (R92, R130, R199). -/
def TimingFields.valid (t : TimingFields) : Bool := t.replyTimeout != 0 && t.scrubInterval != 0

/-- The fields of HOUSEKEEPING (section 11.6), once its checks have passed. -/
structure HousekeepingFields where
  decayInterval : Nat
  sessionIdle   : Nat
  modes         : Tri AlertMode
  deriving DecidableEq, Repr

/-- The fields of a value written to HOUSEKEEPING; none when DECAY_INTERVAL is 0 or a mode field holds 3 (R9, R21, R199). -/
def housekeepingOperand (v : Word) : Option HousekeepingFields :=
  match alertModeOperand (v.field 32 2), alertModeOperand (v.field 34 2), alertModeOperand (v.field 36 2) with
  | some ma, some mb, some mc =>
    if v.field 0 16 = 0 then none
    else some { decayInterval := v.field 0 16, sessionIdle := v.field 16 16, modes := ⟨ma, mb, mc⟩ }
  | _, _, _ => none

/-! ## Encodings of state fields (section 11.6) -/

def SessionState.code : SessionState → Nat
  | .closed => 0
  | .armed => 1
  | .opened => 2

def AccountState.code : AccountState → Nat
  | .healthy => 0
  | .suspect => 1
  | .retired => 2
  | .rebuilding => 3

def RetireReason.code : RetireReason → Nat
  | .none => 0
  | .command => 1
  | .score => 2
  | .portDead => 3
  | .absent => 4
  | .rebuildFailed => 5

def PortState.code : PortState → Nat
  | .off => 0
  | .ready => 1
  | .aborting => 2

def AlertMode.code : AlertMode → Nat
  | .level => 0
  | .edge => 1
  | .entry => 2

def CopyKind.code : CopyKind → Nat
  | .none => 0
  | .fill _ => 1
  | .rebuild _ => 2

def CopyState.code : CopyState → Nat
  | .idle => 0
  | .starting => 1
  | .running => 2

def CopyOutcome.code : CopyOutcome → Nat
  | .none => 0
  | .completed => 1
  | .abortedCommand => 2
  | .abortedTarget => 3
  | .abortedSources => 4
  | .abortedReset => 5

def RepairPhase.code : RepairPhase → Nat
  | .idle => 0
  | .claim => 1
  | .read => 2
  | .write => 3
  | .verify => 4

def WalkerState.code : WalkerState → Nat
  | .off => 0
  | .waiting => 1
  | .claiming => 2
  | .reading => 3
  | .paused => 4

def PauseReason.code : PauseReason → Nat
  | .none => 0
  | .queueHigh => 1
  | .fewReplicas => 2
  | .noBlocks => 3

def ResultOutcome.code : ResultOutcome → Nat
  | .none => 0
  | .done => 1
  | .busy => 2
  | .refusedState => 3
  | .refusedArgument => 4
  | .stale => 5

def RecordKind.code : RecordKind → Nat
  | .miscompare => 0
  | .divergent => 1
  | .readError => 2
  | .writeMissed => 3
  | .timeout => 4
  | .repairFailed => 5
  | .repairAbandoned => 6
  | .rebuildSkipped => 7

def Origin.code : Origin → Nat
  | .upstreamRead => 0
  | .upstreamWrite => 1
  | .scrub => 2
  | .repair => 3
  | .fill => 4
  | .rebuild => 5

def ReadMode.code : ReadMode → Nat
  | .vote => 0
  | .fast => 1

/-- A set of replicas as three positions: A lowest (section 11.6). -/
def maskCode (m : ReplicaSet) : Nat := m.a.toNat + 2 * m.b.toNat + 4 * m.c.toNat

end Sys2Proof.Machine
end

