-- ==== Sys2Proof/Machine/Flags.lean ====
section
/-! DEFINITION. The alert unit (chapter 10): latches, conditions, acknowledge flags, and the ALERT_N line, which every
operation here re-evaluates. -/

namespace Sys2Proof.Machine

open Sys2Proof

/-- What a Causes holds for one cause. -/
def Causes.get {α : Type} (m : Causes α) : Cause → α
  | .health r => m.health.get r
  | .retire => m.retire
  | .dataLoss => m.dataLoss
  | .queueFull => m.queueFull
  | .degraded => m.degraded
  | .recordsLost => m.recordsLost
  | .copyDone => m.copyDone
  | .sessionExpired => m.sessionExpired

/-- A Causes with one place replaced. -/
def Causes.set {α : Type} (m : Causes α) (c : Cause) (v : α) : Causes α :=
  match c with
  | .health r => { m with health := m.health.set r v }
  | .retire => { m with retire := v }
  | .dataLoss => { m with dataLoss := v }
  | .queueFull => { m with queueFull := v }
  | .degraded => { m with degraded := v }
  | .recordsLost => { m with recordsLost := v }
  | .copyDone => { m with copyDone := v }
  | .sessionExpired => { m with sessionExpired := v }

/-- The ten causes in the order of their positions (section 11.6). -/
def Cause.all : List Cause :=
  [.health .a, .health .b, .health .c, .retire, .dataLoss, .queueFull, .degraded, .recordsLost, .copyDone, .sessionExpired]

/-- The position of a cause in ALERT_CAUSES, ALERT_ACK and ALERT_ENABLE (section 11.6). -/
def Cause.position : Cause → Nat
  | .health r => r.number
  | .retire => 3
  | .dataLoss => 4
  | .queueFull => 5
  | .degraded => 6
  | .recordsLost => 7
  | .copyDone => 8
  | .sessionExpired => 9

/-! ## One cause -/

/-- An event of an edge cause (R178). -/
def CauseState.event (c : CauseState) : CauseState := { c with latch := true }

/-- An acknowledge of an edge cause (R178). -/
def CauseState.edgeAck (c : CauseState) : CauseState := { c with latch := false }

/-- The condition of a level cause becomes true (R180): CLEAR and HELD go to ACTIVE. -/
def CauseState.rise (c : CauseState) : CauseState := if c.condition then c else .active

/-- The condition of a level cause becomes false (R180): ACTIVE goes to HELD, ACKNOWLEDGED to CLEAR. -/
def CauseState.fall (c : CauseState) : CauseState :=
  if c.condition then { latch := c.latch && !c.acked, condition := false, acked := false } else c

/-- An acknowledge of a level cause (R180): remembered while the condition is true, else it clears the latch. -/
def CauseState.levelAck (c : CauseState) : CauseState :=
  if c.condition then { c with acked := c.latch } else { c with latch := false }

/-- The condition of a level cause takes a value (R179, R180). -/
def CauseState.setCondition (b : Bool) (c : CauseState) : CauseState := if b then c.rise else c.fall

/-- HEALTH_r at a SUSPECT entry of r, by the health alert mode (R182). -/
def CauseState.suspectEntry (m : AlertMode) (c : CauseState) : CauseState :=
  match m with
  | .level => c.rise
  | .edge | .entry => { c with latch := true, condition := true }

/-- HEALTH_r at a SUSPECT leave of r, by the health alert mode (R182). -/
def CauseState.suspectLeave (m : AlertMode) (c : CauseState) : CauseState :=
  match m with
  | .level => c.fall
  | .edge => { c with latch := true, condition := false }
  | .entry => { c with condition := false }

/-- An acknowledge of HEALTH_r, by the health alert mode (R182). -/
def CauseState.healthAck (m : AlertMode) (c : CauseState) : CauseState :=
  match m with
  | .level => c.levelAck
  | .edge | .entry => c.edgeAck

/-- HEALTH_r at a change of r's health alert mode (R183). -/
def CauseState.convert (old new : AlertMode) (c : CauseState) : CauseState :=
  match old, new with
  | .level, .edge | .level, .entry => { c with latch := c.latch && !c.acked, acked := false }
  | .edge, .level | .entry, .level => { c with latch := c.latch || c.condition, acked := false }
  | .level, .level | .edge, .edge | .edge, .entry | .entry, .edge | .entry, .entry => c

/-- A cause at soft reset (R188): latch and acknowledge flag cleared, the condition as its owner last handed it. -/
def CauseState.softClear (c : CauseState) : CauseState := { c with latch := false, acked := false }

/-- A level cause takes its condition after the soft reset (R188): a true one latches at once, entering ACTIVE. -/
def CauseState.retake (b : Bool) (c : CauseState) : CauseState :=
  { latch := c.latch || b, condition := b, acked := false }

/-! ## The line and the whole unit -/

/-- Whether some cause is both latched and enabled (R186). -/
def Alerts.standing (a : Alerts) : Bool := Cause.all.any fun c => (a.causes.get c).latch && a.enable.get c

/-- ALERT_N is asserted while some cause is latched and enabled, and released while RESET_N is asserted (R186). -/
def State.refreshLine (s : State) : State :=
  { s with alerts := { s.alerts with asserted := !s.pins.resetAsserted && s.alerts.standing } }

/-- One cause changes, and ALERT_N is re-evaluated. -/
def State.updateCause (c : Cause) (f : CauseState → CauseState) (s : State) : State :=
  State.refreshLine { s with alerts := { s.alerts with causes := s.alerts.causes.set c (f (s.alerts.causes.get c)) } }

/-- An event of an edge cause reaches the alert unit (R176, R178). -/
def State.raise (c : Cause) (s : State) : State := s.updateCause c CauseState.event

/-- The owner of a level cause hands its condition (R179). -/
def State.setCondition (c : Cause) (b : Bool) (s : State) : State := s.updateCause c (CauseState.setCondition b)

/-- The SUSPECT entry event of a replica (R21, R182). -/
def State.suspectEntry (r : Replica) (s : State) : State :=
  s.updateCause (.health r) (CauseState.suspectEntry (s.account r).alertMode)

/-- The SUSPECT leave event of a replica (R21, R182). -/
def State.suspectLeave (r : Replica) (s : State) : State :=
  s.updateCause (.health r) (CauseState.suspectLeave (s.account r).alertMode)

/-- An acknowledge reaches one cause (R184): an edge cause by R178, a level cause by R180, HEALTH_r by its mode. -/
def State.acknowledge (c : Cause) (s : State) : State :=
  match c with
  | .health r => s.updateCause c (CauseState.healthAck (s.account r).alertMode)
  | .queueFull | .degraded => s.updateCause c CauseState.levelAck
  | .retire | .dataLoss | .recordsLost | .copyDone | .sessionExpired => s.updateCause c CauseState.edgeAck

/-- DEGRADED's condition: the voting set has fewer than three members (R179). -/
def State.handDegraded (s : State) : State := s.setCondition .degraded (decide (s.votingCount < 3))

end Sys2Proof.Machine
end

