-- ==== Sys2Proof/Machine/Records.lean ====
section
/-! DEFINITION. The fault record list (chapter 9): taking a record event, releasing the head. -/

namespace Sys2Proof.Machine

open Sys2Proof

/-- A record event (R164). -/
structure RecordEvent where
  kind   : RecordKind
  origin : Origin
  block  : Nat
  mask   : ReplicaSet
  word   : Option Nat
  queued : Bool
  deriving DecidableEq, Repr

/-- Whether a record and an event have the same block and kind (R164). -/
def FaultRecord.sameAs (r : FaultRecord) (e : RecordEvent) : Bool := r.block == e.block && r.kind == e.kind

/-- The lower of two word indices, where both are present (R166). -/
def lowerWord : Option Nat → Option Nat → Option Nat
  | some i, some j => some (min i j)
  | some i, none => some i
  | none, w => w

/-- A record after an event has merged into it (R166). -/
def FaultRecord.merge (r : FaultRecord) (e : RecordEvent) : FaultRecord :=
  { r with
    mask := r.mask.union e.mask
    repeats := saturate255 r.repeats
    word := lowerWord r.word e.word
    queued := r.queued || e.queued }

/-- The record an event creates (R165). -/
def RecordEvent.create (e : RecordEvent) (sequence : Nat) : FaultRecord where
  sequence := sequence
  kind := e.kind
  origin := e.origin
  block := e.block
  word := e.word
  mask := e.mask
  repeats := 1
  queued := e.queued

/-- The fault record list after an event it does not drop; none when the event is dropped (R164 to R167). -/
def Records.take (l : Records) (e : RecordEvent) : Option Records :=
  if l.list.any (fun r => r.sameAs e) then
    some { l with list := l.list.map fun r => if r.sameAs e then r.merge e else r }
  else if l.list.length < Config.recordPlaces then
    some { l with list := l.list ++ [e.create l.nextSeq], nextSeq := wrap16 l.nextSeq }
  else none

/-- A record event is handed to the fault record list (R164). An event whose mask would be empty is not reported (R82, R118,
R146). A dropped event raises the lost count and RECORDS_LOST (R167). -/
def State.recordEvent (e : RecordEvent) (s : State) : State :=
  if e.mask.isEmpty then s
  else
    match s.records.take e with
    | some l => { s with records := l }
    | none => State.raise .recordsLost { s with records := { s.records with lost := saturate255 s.records.lost } }

/-- RECORD_RELEASE (R170): the written value carries a sequence and a repeat count. -/
def State.recordRelease (v : Word) (s : State) : ResultOutcome × State :=
  match s.records.list with
  | [] => (.refusedState, s)
  | head :: rest =>
    if v.field 0 16 = head.sequence ∧ v.field 16 8 = head.repeats then
      (.done, { s with records := { s.records with list := rest } })
    else (.stale, s)

end Sys2Proof.Machine
end

