-- ==== Sys2Proof/Machine/Queue.lean ====
section
/-! DEFINITION. The repair queue (section 6.1): insertion, removal, retirement, fill purge, flush. Each hands QUEUE_FULL's
condition (R109). -/

namespace Sys2Proof.Machine

open Sys2Proof

/-- The queue takes a new content, and QUEUE_FULL's condition is handed (R109). -/
def State.setQueue (q : List QueueEntry) (s : State) : State :=
  State.setCondition .queueFull (q.length == Config.queueDepth) { s with queue := q }

/-- An insertion into a queue, of replicas that all vote: merged, appended, or not stored (R108, R109). -/
def insertEntry (q : List QueueEntry) (block : Nat) (mask : ReplicaSet) (attempts : Nat) : Option (List QueueEntry) :=
  if q.any (fun e => e.block == block) then
    some (q.map fun e =>
      if e.block == block then { e with mask := e.mask.union mask, attempts := max e.attempts attempts } else e)
  else if q.length < Config.queueDepth then some (q ++ [{ block := block, mask := mask, attempts := attempts }])
  else none

/-- An insertion (R108): replicas that do not vote are dropped. The Bool is the answer whether it was stored. -/
def State.insertRepair (block : Nat) (named : ReplicaSet) (attempts : Nat) (s : State) : State × Bool :=
  let mask := named.inter s.voting
  if mask.isEmpty then (s, false)
  else
    match insertEntry s.queue block mask attempts with
    | some q => (s.setQueue q, true)
    | none => (s, false)

/-- A replica leaves the masks of the entries chosen, and an entry whose mask empties leaves (R110, R111). -/
def dropReplica (q : List QueueEntry) (r : Replica) (chosen : QueueEntry → Bool) : List QueueEntry :=
  (q.map fun e => if chosen e then { e with mask := e.mask.without r } else e).filter fun e => !e.mask.isEmpty

/-- A removal of one replica from a block's entry (R110). -/
def State.removeRepair (block : Nat) (r : Replica) (s : State) : State :=
  s.setQueue (dropReplica s.queue r fun e => e.block == block)

/-- A retirement leaves every mask (R111). -/
def State.retireFromQueue (r : Replica) (s : State) : State := s.setQueue (dropReplica s.queue r fun _ => true)

/-- The start of a fill removes every entry of its blocks (R112). -/
def State.purgeQueue (first last : Nat) (s : State) : State :=
  s.setQueue (s.queue.filter fun e => !(decide (first ≤ e.block) && decide (e.block ≤ last)))

end Sys2Proof.Machine
end

