-- ==== Sys2Proof/Machine/Table.lean ====
section
/-! DEFINITION. The request table's own operations: order within a block, the block lock set with claims and draining holds,
the end of a slot, and the response channel (chapter 2). A granted claim carries its engine into the next phase (R116, R134,
R144, R151), and a refused scrub claim ends the walker's visit (R134, R136). -/

namespace Sys2Proof.Machine

open Sys2Proof

/-! ## Responses (section 2.6) -/

/-- The response of an answered slot (R44). -/
def Slot.response (sl : Slot) : Response :=
  match sl.status, sl.kind with
  | some .refused, _ => { tag := sl.tag, status := .refused, reason := sl.reason, failedMask := none, words := [] }
  | some st, .read => { tag := sl.tag, status := st, reason := none, failedMask := some sl.failedMask, words := sl.words }
  | some st, .write => { tag := sl.tag, status := st, reason := none, failedMask := none, words := [] }
  | none, _ => { tag := sl.tag, status := .failed, reason := none, failedMask := none, words := [] }

/-- The response of the refusal holding place (R27). -/
def holdingResponse (tag : Tag) : Response :=
  { tag := tag, status := .refused, reason := some .tagInUse, failedMask := none, words := [] }

/-- When the channel is free, RT presents the holding place's response, else the head of the answer order list (R43). -/
def State.presentNext (s : State) : State :=
  match s.rt.channel, s.rt.holding, s.rt.answerOrder with
  | some _, _, _ => s
  | none, some tag, _ => { s with rt := { s.rt with channel := some ⟨.holding, holdingResponse tag⟩ } }
  | none, none, [] => s
  | none, none, i :: rest =>
    { s with
      rt :=
        { s.rt with
          channel := (s.slot i).map fun sl => ⟨.slot i, sl.response⟩
          answerOrder := rest } }

/-! ## Blocks at work (sections 2.4, 2.5) -/

/-- Whether a place holds a memory request for a block in a state. -/
def State.slotIs (s : State) (i : SlotId) (block : Nat) (st : SlotState) : Bool :=
  match s.slot i with
  | some sl => sl.route == .memory && sl.block == block && sl.state == st
  | none => false

/-- Whether an upstream request for the block is ISSUED (R39). -/
def State.issuedFor (s : State) (block : Nat) : Bool := SlotId.all.any fun i => s.slotIs i block .issued

/-- Whether an engine holds the block (R39). -/
def State.heldBy (s : State) (e : Engine) (block : Nat) : Bool := (s.lock e).held == some block

/-- Whether some engine holds the block. -/
def State.held (s : State) (block : Nat) : Bool :=
  s.heldBy .repair block || s.heldBy .copy block || s.heldBy .scrub block

/-- Whether the block is under a draining hold (R42). -/
def State.draining (s : State) (block : Nat) : Bool :=
  (s.lock .repair).draining == some block || (s.lock .copy).draining == some block
    || (s.lock .scrub).draining == some block

/-- Whether an engine other than `e` holds the block. -/
def State.heldByOther (s : State) (e : Engine) (block : Nat) : Bool :=
  [Engine.repair, .copy, .scrub].any fun e' => e' != e && s.heldBy e' block

/-- The three conditions of R39. -/
def State.canGrant (s : State) (e : Engine) (block : Nat) : Bool :=
  !s.issuedFor block && !s.heldByOther e block && !s.draining block

/-- Whether an engine's claim on the block is pending. -/
def State.claims (s : State) (e : Engine) (block : Nat) : Bool := (s.lock e).claim == some block

/-- The oldest memory request for a block in the acceptance order list (R35). -/
def State.oldestFor (s : State) (block : Nat) : Option SlotId :=
  s.rt.acceptOrder.find? fun i =>
    match s.slot i with
    | some sl => sl.block == block
    | none => false

/-- The oldest memory request for the block becomes READY if nothing of R35 holds it back. -/
def State.promote (block : Nat) (s : State) : State :=
  match s.oldestFor block with
  | none => s
  | some i =>
    match s.slot i with
    | none => s
    | some sl =>
      if sl.state == .waiting && !s.held block && !s.draining block then
        s.setSlot i (some { sl with state := .ready })
      else s

/-- A READY memory request for the block returns to WAITING (R39). -/
def holdBack (block : Nat) (x : Option Slot) : Option Slot :=
  x.map fun sl =>
    if sl.route == .memory && sl.block == block && sl.state == .ready then { sl with state := .waiting } else sl

/-- The end of a visit of the scrub walker (R136): the pointer advances, and SCRUB_ON is consulted. -/
def Scrub.endVisit (w : Scrub) (lastBlock : Nat) : Scrub :=
  { w with
    pointer := if w.pointer < lastBlock then w.pointer + 1 else 0
    passCount := if w.pointer < lastBlock then w.passCount else wrap16 w.passCount
    state := if w.on then .waiting else .off
    reason := .none
    timer := if w.on then some w.interval else none
    op := .none }

/-- A refused scrub claim: the walker skips the block (R134, R136). -/
def State.skipScrub (s : State) : State :=
  let s := s.setLock .scrub { s.lock .scrub with claim := none }
  { s with scrub := s.scrub.endVisit (s.spanBlocks - 1) }

/-- An op that names these replicas is made ready; when it would name none, its decision is made at once (R117). -/
def readyOp (named : ReplicaSet) : OpStage :=
  if named.isEmpty then .out ⟨none, none, none⟩ else .ready named

/-- The phase an engine enters when its claim is granted: repair READ, naming the sources that vote (R116, R117); scrub READING
(R134); copy WRITE for a fill (R144), READ for a rebuild, naming every voting replica (R151). -/
def State.engineGranted (e : Engine) (s : State) : State :=
  match e with
  | .repair => { s with repair := { s.repair with phase := .read, op := readyOp (s.repair.sources.inter s.voting) } }
  | .scrub => { s with scrub := { s.scrub with state := .reading, op := .ready s.voting } }
  | .copy =>
    match s.copy.kind with
    | .rebuild _ => { s with copy := { s.copy with step := .read, op := readyOp s.voting } }
    | .fill _ | .none => { s with copy := { s.copy with step := .write, op := .ready s.voting } }

/-- RT grants an engine's claim (R39): the lock holds the block, READY requests for it return to WAITING, and a pending scrub
claim on it is refused when it is another engine's (R41). -/
def State.grantClaim (e : Engine) (block : Nat) (s : State) : State :=
  let s := s.setLock e { s.lock e with held := some block, claim := none }
  let s := { s with rt := { s.rt with slots := mapVector (holdBack block) s.rt.slots } }
  let s := if e != .scrub && s.claims .scrub block then s.skipScrub else s
  s.engineGranted e

/-- What RT does when a block may have become free (R38, R40, R42): it grants the pending claim of highest rank, failing that
the oldest memory request for the block becomes READY. -/
def State.freeBlock (block : Nat) (s : State) : State :=
  if s.claims .repair block && s.canGrant .repair block then s.grantClaim .repair block
  else if s.claims .copy block && s.canGrant .copy block then s.grantClaim .copy block
  else if s.claims .scrub block && s.canGrant .scrub block then s.grantClaim .scrub block
  else s.promote block

/-- Whether RT grants an engine's pending claim on a block now, its rank among the pending claims kept (R39, R40, R41). -/
def State.claimWins (s : State) (e : Engine) (block : Nat) : Bool :=
  s.canGrant e block
    && (match e with
      | .repair => true
      | .copy => !s.claims .repair block
      | .scrub => !s.claims .repair block && !s.claims .copy block)

/-- A pending claim that nothing holds back is granted before a later claim on its block is made (R40: at the first moment). -/
def State.grantEarlier (e : Engine) (block : Nat) (s : State) : State :=
  if s.claims e block && s.claimWins e block then s.grantClaim e block else s

/-- A claim is made (R39, R40), after an earlier claim of lower rank on the block that nothing holds back has been granted. RT's
grant is a step of its own, BLOCK_CLAIM_GRANT, unless the block is freed first; until it the arbiter offers no READY request for
the block (log 6). -/
def State.claim (e : Engine) (block : Nat) (s : State) : State :=
  let s :=
    match e with
    | .repair => (s.grantEarlier .copy block).grantEarlier .scrub block
    | .copy => s.grantEarlier .scrub block
    | .scrub => s
  s.setLock e { s.lock e with claim := some block }

/-- Whether some port's list holds an op of this engine. -/
def State.hasOps (s : State) (e : Engine) : Bool :=
  Replica.all.any fun r => (s.port r).list.any fun x => x.op.owner == .engine e

/-- Whether some port's list holds an op of this engine for the block. -/
def State.hasOpsFor (s : State) (e : Engine) (block : Nat) : Bool :=
  Replica.all.any fun r => (s.port r).list.any fun x => x.op.owner == .engine e && x.op.block == block

/-- An engine releases its lock (R42): free at once, or a draining hold while its ops for the block are outstanding. It has no
claim then, since it makes a new one only after the release (R39). -/
def State.releaseLock (e : Engine) (s : State) : State :=
  match (s.lock e).held with
  | none => s
  | some block =>
    if s.hasOpsFor e block then s.setLock e { held := none, claim := none, draining := some block }
    else (s.setLock e { s.lock e with held := none, claim := none }).freeBlock block

/-- An engine abandons its work: its entries are marked owner gone (R91), a pending claim is withdrawn (R40), and its lock is
released (R42). -/
def State.abandon (e : Engine) (s : State) : State :=
  let mark (p : Port) : Port :=
    { p with list := p.list.map fun x => if x.op.owner == .engine e then { x with ownerGone := true } else x }
  let s := { s with ports := { s.ports with port := Tri.ofFn fun r => mark (s.port r) } }
  let s := s.setLock e { s.lock e with claim := none }
  s.releaseLock e

/-- An owner-gone entry has left a list (R91): the draining hold on its block ends when no other op of that work remains in any
list (R42). -/
def State.goneLeft (e : Engine) (block : Nat) (s : State) : State :=
  if (s.lock e).draining == some block && !s.hasOpsFor e block then
    (s.setLock e { s.lock e with draining := none }).freeBlock block
  else s

/-- A slot enters ANSWERED: it leaves the acceptance order list and joins the answer order list (R38, R43). -/
def State.answerSlot (i : SlotId) (sl : Slot) (s : State) : State :=
  let s := s.setSlot i (some { sl with state := .answered })
  State.presentNext
    { s with
      rt :=
        { s.rt with
          acceptOrder := s.rt.acceptOrder.filter fun j => j != i
          answerOrder := s.rt.answerOrder ++ [i] } }

/-! ## The issue arbiter's view (section 5.5) -/

/-- Whether an engine is a candidate (R103): it holds its block's lock, its op is ready, and no entry of its own remains in any
list. -/
def State.engineCandidate (s : State) (e : Engine) : Bool :=
  (s.lock e).held.isSome
    && (match s.engineOp e with
      | .ready _ => true
      | .none | .out _ => false)
    && !s.hasOps e

/-- The candidate engine of highest rank (R104). -/
def State.topEngine (s : State) : Option Engine := [Engine.repair, .copy, .scrub].find? s.engineCandidate

/-- Whether some engine's claim on the block is pending. -/
def State.claimed (s : State) (block : Nat) : Bool := s.claims .repair block || s.claims .copy block || s.claims .scrub block

/-- Whether a place holds a request the upstream side can offer (R36): READY, with no claim pending on its block, which RT grants
first (R40, log 6); or awaiting its fallback grant. -/
def State.offerable (s : State) (i : SlotId) : Bool :=
  match s.slot i with
  | some sl =>
    (sl.state == .ready && !s.claimed sl.block) || (sl.state == .issued && sl.fastPhase == .fallback && sl.awaiting)
  | none => false

/-- The slot the upstream side offers: the oldest of the acceptance order list that it can offer (R36). -/
def State.offered (s : State) : Option SlotId := s.rt.acceptOrder.find? s.offerable

/-- Who is granted next. -/
inductive Requester where
  | upstream (i : SlotId)
  | engine (e : Engine)
  deriving DecidableEq, Repr

/-- The issue arbiter's choice (R104). -/
def State.arbiter (s : State) : Option Requester :=
  match s.offered, s.topEngine with
  | some i, none => some (.upstream i)
  | some i, some e => if s.ports.runCount < Config.runLimit then some (.upstream i) else some (.engine e)
  | none, some e => some (.engine e)
  | none, none => none

/-- The run count returns to 0 whenever no engine is a candidate (R104). -/
def State.settleRunCount (s : State) : State :=
  if s.topEngine.isNone then { s with ports := { s.ports with runCount := 0 } } else s

end Sys2Proof.Machine
end

