-- ==== Sys2Proof/Machine/PortUnit.lean ====
section
/-! DEFINITION. The replica port unit (chapter 5): handing answers and losses to owners, beginning an abort, and what a grant
puts in the issue lists. -/

namespace Sys2Proof.Machine

open Sys2Proof

/-- An answer or a loss is recorded in an op's answers where the replica is still PENDING (R37, R117, R120, R145, R151). -/
def recordAnswer (answers : Tri (Option OpAnswer)) (r : Replica) (x : OpAnswer) : Tri (Option OpAnswer) :=
  match answers.get r with
  | some .pending => answers.set r (some x)
  | some (.ok _) | some .error | some .lost | none => answers

/-- An answer or a loss is recorded in a slot's voter list where the replica is still PENDING (R37, R62). -/
def Slot.recordAnswer (sl : Slot) (r : Replica) (x : OpAnswer) : Slot :=
  match sl.voters.get r with
  | some ⟨role, .pending⟩ => { sl with voters := sl.voters.set r (some ⟨role, x⟩) }
  | some ⟨_, .ok _⟩ | some ⟨_, .error⟩ | some ⟨_, .lost⟩ | none => sl

/-- An answer or a loss is recorded in an engine's op. -/
def OpStage.recordAnswer (o : OpStage) (r : Replica) (x : OpAnswer) : OpStage :=
  match o with
  | .out answers => .out (Machine.recordAnswer answers r x)
  | .none | .ready _ => o

/-- What an entry that leaves port `r`'s list hands on: the answer or loss to its owner, or, for an owner that is gone, the
report to RT (R90, R91). -/
def State.handOn (r : Replica) (x : OpAnswer) (entry : IssueEntry) (s : State) : State :=
  match entry.op.owner with
  | .slot i => s.setSlot i ((s.slot i).map fun sl => sl.recordAnswer r x)
  | .engine e =>
    if entry.ownerGone then s.goneLeft e entry.op.block
    else s.setEngineOp e ((s.engineOp e).recordAnswer r x)

/-- The port enters ABORTING with its limit set, and its list is emptied, each loss handed on head first (R95 steps 1 and 2,
R96). -/
def State.emptyPort (r : Replica) (s : State) : State :=
  let p := s.port r
  let s := s.setPort r { p with state := .aborting, list := [], abortLimit := some Config.abortTicks }
  p.list.foldl (fun s entry => s.handOn r .lost entry) s

/-- The ABORT output of a port is asserted (R95 step 5, R96). -/
def State.assertAbort (r : Replica) (s : State) : State := s.setPort r { s.port r with abort := true }

/-- An abort begins (R96). -/
def State.beginAbort (r : Replica) (s : State) : State := (s.emptyPort r).assertAbort r

/-- What the HM's retirement does at the port (R97): a READY port begins an abort; ABORTING keeps its abort; OFF stays OFF. -/
def State.retirePort (r : Replica) (s : State) : State :=
  match (s.port r).state with
  | .ready => s.beginAbort r
  | .aborting | .off => s

/-- What a REBUILD command does at the target's port (R98): an OFF port begins an abort; ABORTING keeps its abort. -/
def State.rebuildPort (r : Replica) (s : State) : State :=
  match (s.port r).state with
  | .off => s.beginAbort r
  | .aborting | .ready => s

/-- An answer taken on a port as its owner records it (R90): OK with one data word per word of a read op, OK for a write,
ERROR. -/
def asAnswer (x : BankAnswer) (op : Op) : OpAnswer :=
  match x, op.kind with
  | .error, _ => .error
  | .data words, .read => .ok (words.toList.take op.length)
  | .data _, .write => .ok []

/-- The answers an owner has at a grant (R102): PENDING for a named replica whose port is READY, LOST for one whose port is
not. -/
def State.grantAnswers (s : State) (named : ReplicaSet) : Tri (Option OpAnswer) :=
  Tri.ofFn fun r =>
    if named.get r then some (if (s.port r).state = .ready then .pending else .lost) else none

/-- A grant puts one entry in the list of each named replica whose port is READY (R102), with the deadline of R92. -/
def State.issue (op : Op) (named : ReplicaSet) (s : State) : State :=
  let entry : IssueEntry := { op := op, ownerGone := false, deadline := s.ports.replyTimeout, accepted := false }
  let add (r : Replica) : Port :=
    if named.get r && (s.port r).state == .ready then { s.port r with list := (s.port r).list ++ [entry] } else s.port r
  { s with ports := { s.ports with port := Tri.ofFn add } }

/-- The op presented on a port's request channel: the oldest the bank has not accepted, on a READY port (R89). -/
def State.presentedOp (s : State) (r : Replica) : Option Op :=
  match (s.port r).state with
  | .ready => ((s.port r).list.find? fun x => !x.accepted).map (·.op)
  | .aborting | .off => none

/-- The oldest entry the bank has not accepted becomes accepted (R89). -/
def acceptFirst : List IssueEntry → List IssueEntry
  | [] => []
  | x :: rest => if x.accepted then x :: acceptFirst rest else { x with accepted := true } :: rest

end Sys2Proof.Machine
end

