-- ==== Sys2Proof/Machine/Accounts.lean ====
section
/-! DEFINITION. The health monitor (chapter 1) and the end of a copy (section 8.4), which retires its target: retirement,
charges, the end of a copy, the settings re-test. -/

namespace Sys2Proof.Machine

open Sys2Proof

/-- The weight of a charge (section 1.2). -/
def ChargeKind.weight : ChargeKind → Nat
  | .miscompare => 4
  | .readError => 8
  | .writeMissed => 8
  | .timeout => 16
  | .repairFailed => 32

/-- What a retirement does to the active repair (R124): in CLAIM and READ the replica leaves the mask, in CLAIM it leaves the
sources. -/
def Repair.retire (a : Repair) (r : Replica) : Repair :=
  match a.phase with
  | .claim => { a with mask := a.mask.without r, sources := a.sources.without r }
  | .read => { a with mask := a.mask.without r }
  | .idle | .write | .verify => a

/-- A replica enters RETIRED (R14), all but the copy engine's part: SUSPECT leave event, account, RETIRE event, DEGRADED, active
repair, port, repair queue. -/
def State.retireCore (r : Replica) (reason : RetireReason) (s : State) : State :=
  let s := if (s.account r).state = .suspect then s.suspectLeave r else s
  let s := s.setAccount r { s.account r with state := .retired, reason := reason }
  let s := (s.raise .retire).handDegraded
  let s := { s with repair := s.repair.retire r }
  (s.retirePort r).retireFromQueue r

/-- A completed rebuild reaches the HM (R17). -/
def State.joinRebuilt (r : Replica) (skips : Nat) (s : State) : State :=
  let a := s.account r
  let s :=
    if skips = 0 then s.setAccount r { a with state := .healthy, score := 0, reason := .none }
    else
      (s.setAccount r { a with state := .suspect, score := s.health.thresholds.suspectAt, reason := .none }).suspectEntry r
  s.handDegraded

/-- What the end of a copy does by its kind (R157 steps 3 and 4): a fill clears the fill mark; a rebuild hands its end to the
health monitor. -/
def State.copyHandOver (kind : CopyKind) (outcome : CopyOutcome) (s : State) : State :=
  match kind with
  | .none => s
  | .fill _ => { s with regions := { s.regions with fillMark := none } }
  | .rebuild r => if outcome = .completed then s.joinRebuilt r s.copy.skipCount else s.retireCore r .rebuildFailed

/-- The end of a rebuild leaves the active repair no target of it (R125). -/
def State.copyForget (s : State) : State := { s with repair := { s.repair with target := none } }

/-- Every end of a copy operation (R157). The run count returns to 0 when no engine is a candidate any more (R104), but a soft
reset keeps it (R106, log 14). -/
def State.copyEnd (outcome : CopyOutcome) (s : State) : State :=
  let s := { s with copy := { s.copy with state := .idle, step := .none, outcome := outcome, op := .none } }
  let s := s.copyForget.abandon .copy
  let s := (s.copyHandOver s.copy.kind outcome).raise .copyDone
  if outcome = .abortedReset then s else s.settleRunCount

/-- A replica enters RETIRED with all its consequences (R14): when the voting set is then empty, a copy in progress ends with
ABORTED_SOURCES (R159). -/
def State.retire (r : Replica) (reason : RetireReason) (s : State) : State :=
  let s := s.retireCore r reason
  if s.voting.isEmpty && s.copy.state != .idle then s.copyEnd .abortedSources else s

/-- The test for automatic retirement (R5). -/
def State.autoRetire (r : Replica) (s : State) : State :=
  let a := s.account r
  let t := s.health.thresholds
  if a.state = .suspect ∧ t.retireAt ≤ a.score ∧ t.autoRetire = true ∧ s.votingCount = 3 then s.retire r .score else s

/-- The score of a voting account after a charge, and its test for suspicion (R4). -/
def State.applyCharge (r : Replica) (kind : ChargeKind) (s : State) : State :=
  let a := s.account r
  let score := limitScore (a.score + kind.weight)
  if a.state = .healthy ∧ s.health.thresholds.suspectAt ≤ score then
    (s.setAccount r { a with score := score, state := .suspect }).suspectEntry r
  else s.setAccount r { a with score := score }

/-- A charge reaches an account (R3, R4, R5). -/
def State.charge (r : Replica) (kind : ChargeKind) (s : State) : State :=
  if (s.account r).votes then (s.applyCharge r kind).autoRetire r else s

/-- Charges in the order A, B, C (R75, R122, R146). -/
def State.charges (kinds : Tri (Option ChargeKind)) (s : State) : State :=
  Replica.all.foldl
    (fun s r =>
      match kinds.get r with
      | some k => s.charge r k
      | none => s)
    s

/-- A target failure reaches the copy engine (R155): it ends a rebuild of that replica in STARTING or RUNNING. -/
def State.targetFailure (r : Replica) (s : State) : State :=
  if s.rebuildTarget = some r then s.copyEnd .abortedTarget else s

/-- One account under new thresholds (R8). -/
def State.retest (r : Replica) (s : State) : State :=
  let a := s.account r
  let t := s.health.thresholds
  if a.state = .healthy ∧ t.suspectAt ≤ a.score then (s.setAccount r { a with state := .suspect }).suspectEntry r
  else if a.state = .suspect ∧ a.score ≤ t.clearAt then (s.setAccount r { a with state := .healthy }).suspectLeave r
  else s

/-- One account at a decay expiry: the step of R10 on the score. -/
def State.decayScore (r : Replica) (s : State) : State :=
  let a := s.account r
  if a.votes then s.setAccount r { a with score := a.score - 1 } else s

/-- One account at a decay expiry: a SUSPECT account at or below CLEAR_AT enters HEALTHY (R10). -/
def State.decayClear (r : Replica) (s : State) : State :=
  let a := s.account r
  if a.state = .suspect ∧ a.score ≤ s.health.thresholds.clearAt then
    (s.setAccount r { a with state := .healthy }).suspectLeave r
  else s

/-- An operation made for A, B and C in that order. -/
def State.forEach (f : Replica → State → State) (s : State) : State := f .c (f .b (f .a s))

end Sys2Proof.Machine
end

