-- ==== Sys2Proof/Machine/Vote.lean ====
section
/-! DEFINITION. The vote unit (chapter 4): the per-word table, the decision of reads, writes and scrub reads, and the
consequences handed in the order of R75. -/

namespace Sys2Proof.Machine

open Sys2Proof

/-! ## The per-word table (R63) -/

/-- The outcome of one word. -/
inductive WordOutcome where
  | clean (v : Word)
  | corrected (v : Word) (outvoted : Replica)
  | single (v : Word)
  | divergent
  | noValue
  deriving DecidableEq, Repr

/-- The table of R63, on the values of the contributing replicas. -/
def voteWord (t : Tri (Option Word)) : WordOutcome :=
  match t.a, t.b, t.c with
  | some x, some y, some z =>
    if x = y then (if y = z then .clean x else .corrected x .c)
    else if x = z then .corrected x .b
    else if y = z then .corrected y .a
    else .divergent
  | some x, some y, none | some x, none, some y | none, some x, some y => if x = y then .clean x else .divergent
  | some x, none, none | none, some x, none | none, none, some x => .single x
  | none, none, none => .noValue

/-- The value delivered for a word; zero for a FAILED one (R63). -/
def WordOutcome.value : WordOutcome → Word
  | .clean v | .corrected v _ | .single v => v
  | .divergent | .noValue => 0

/-- The status of one word (R63). -/
def WordOutcome.status : WordOutcome → Status
  | .clean _ => .clean
  | .corrected _ _ => .corrected
  | .single _ => .single
  | .divergent | .noValue => .failed

/-- The rank of a read status: FAILED above CORRECTED above SINGLE above CLEAN (R64). -/
def Status.rank : Status → Nat
  | .clean => 0
  | .single => 1
  | .corrected => 2
  | .failed => 3
  | .partialWrite => 4
  | .refused => 5

/-- The worse of two read statuses (R64). -/
def Status.worse (x y : Status) : Status := if x.rank < y.rank then y else x

/-- The words of the contributing replicas at one position. -/
def wordsAt (contributing : Tri (Option (List Word))) (k : Nat) : Tri (Option Word) :=
  Tri.ofFn fun r => (contributing.get r).bind fun words => words[k]?

/-- The outcomes of the `n` words of an op. -/
def voteWords (contributing : Tri (Option (List Word))) (n : Nat) : List WordOutcome :=
  (List.range n).map fun k => voteWord (wordsAt contributing k)

/-- The contributing replicas of an engine's read (R85): answered OK and voting now. -/
def State.contributing (s : State) (answers : Tri (Option OpAnswer)) : Tri (Option (List Word)) :=
  Tri.ofFn fun r =>
    match answers.get r with
    | some (.ok words) => if (s.account r).votes then some words else none
    | some .pending | some .error | some .lost | none => none

/-- The replicas that contribute. -/
def contributors (contributing : Tri (Option (List Word))) : ReplicaSet := Tri.ofFn fun r => (contributing.get r).isSome

/-- The answers of the VOTER entries of a voter list. -/
def voterAnswers (voters : Tri (Option VoterEntry)) : Tri (Option OpAnswer) :=
  Tri.ofFn fun r =>
    match voters.get r with
    | some ⟨.voter, x⟩ => some x
    | some ⟨.target, _⟩ | none => none

/-- The replicas with a given answer. -/
def answered (answers : Tri (Option OpAnswer)) (x : OpAnswer) : ReplicaSet := Tri.ofFn fun r => answers.get r == some x

/-- The replicas that answered OK. -/
def answeredOk (answers : Tri (Option OpAnswer)) : ReplicaSet :=
  Tri.ofFn fun r =>
    match answers.get r with
    | some (.ok _) => true
    | some .pending | some .error | some .lost | none => false

/-- The replicas that answered ERROR or LOST. -/
def answeredBad (answers : Tri (Option OpAnswer)) : ReplicaSet := (answered answers .error).union (answered answers .lost)

/-- The replicas named in an answer table. -/
def namedIn (answers : Tri (Option OpAnswer)) : ReplicaSet := Tri.ofFn fun r => (answers.get r).isSome

/-- Whether no replica of an op is PENDING. -/
def allIn (answers : Tri (Option OpAnswer)) : Bool := (answered answers .pending).isEmpty

/-! ## Consequences of a read (R75 to R78, R84) -/

/-- What a read decision found. -/
structure ReadFindings where
  outvoted      : ReplicaSet
  outvotedWord  : Option Nat
  errors        : ReplicaSet
  divergentMask : ReplicaSet
  divergentWord : Option Nat
  deriving DecidableEq, Repr

/-- Whether a word outcome outvotes a replica. -/
def WordOutcome.outvotes (r : Replica) : WordOutcome → Bool
  | .corrected _ x => x == r
  | .clean _ | .single _ | .divergent | .noValue => false

/-- Whether a word was decided CORRECTED. -/
def WordOutcome.isCorrected : WordOutcome → Bool
  | .corrected _ _ => true
  | .clean _ | .single _ | .divergent | .noValue => false

/-- The findings of a read of words from `firstWord` on (R76, R77, R78): word indices are positions in the block. -/
def findings (firstWord : Nat) (outcomes : List WordOutcome) (who errors : ReplicaSet) : ReadFindings where
  outvoted := Tri.ofFn fun r => outcomes.any fun o => o.outvotes r
  outvotedWord := (outcomes.findIdx? WordOutcome.isCorrected).map (firstWord + ·)
  errors := errors
  divergentMask := if outcomes.contains .divergent then who else Tri.nobody
  divergentWord := (outcomes.findIdx? (· == .divergent)).map (firstWord + ·)

/-- One insertion for each replica of a set (R76, R77, R79). The set answered is of those stored. -/
def State.insertEach (block : Nat) (m : ReplicaSet) (s : State) : State × ReplicaSet :=
  let step (acc : State × ReplicaSet) (r : Replica) : State × ReplicaSet :=
    if m.get r then
      let res := acc.1.insertRepair block (Tri.only r) 0
      (res.1, acc.2.set r res.2)
    else acc
  Replica.all.foldl step (s, Tri.nobody)

/-- Whether an insertion was stored for at least one replica of a mask (R75). -/
def anyStored (stored mask : ReplicaSet) : Bool := !(stored.inter mask).isEmpty

/-- The reports of a read decision after the slot's, in the order of R75: insertions, charges, record events. DATA_LOSS is the
caller's. -/
def State.reportRead (origin : Origin) (block : Nat) (f : ReadFindings) (s : State) : State :=
  let ins := s.insertEach block (f.outvoted.union f.errors)
  let s := ins.1
  let s := s.charges (Tri.ofFn fun r =>
    if f.outvoted.get r then some .miscompare else if f.errors.get r then some .readError else none)
  let s := s.recordEvent
    { kind := .miscompare, origin := origin, block := block, mask := f.outvoted, word := f.outvotedWord,
      queued := anyStored ins.2 f.outvoted }
  let s := s.recordEvent
    { kind := .readError, origin := origin, block := block, mask := f.errors, word := none,
      queued := anyStored ins.2 f.errors }
  s.recordEvent
    { kind := .divergent, origin := origin, block := block, mask := f.divergentMask, word := f.divergentWord,
      queued := false }

/-! ## The decision of a memory read (R61 to R71) -/

/-- The reported status of a word: in a fallback phase a CLEAN word is CORRECTED (R70). -/
def reportedStatus (phase : FastPhase) (o : WordOutcome) : Status :=
  match phase, o with
  | .fallback, .clean _ => .corrected
  | _, o => o.status

/-- The worst outcome among the words (R64, R70). -/
def readStatus (phase : FastPhase) (outcomes : List WordOutcome) : Status :=
  (outcomes.map (reportedStatus phase)).foldl Status.worse .clean

/-- The failed-word mask (R64): position k is set when the k-th word was decided FAILED. -/
def failedMask (outcomes : List WordOutcome) : BitVec 8 :=
  BitVec.ofNat 8
    ((outcomes.zipIdx.map fun p => if p.1.status = .failed then 2 ^ p.2 else 0).foldl (· + ·) 0)

/-- The first phase's replica with its answer, when the slot is in FIRST and a replica was named. -/
def Slot.firstPhase (sl : Slot) : Option (Replica × OpAnswer) :=
  match sl.fastPhase with
  | .first =>
    (Replica.all.find? fun r => (sl.voters.get r).isSome).bind fun r => (sl.voters.get r).map fun e => (r, e.answer)
  | .none | .fallback => none

/-- The slot passes to its fallback phase (R69): the first phase's answer is kept, and the slot is offered again. Its target set and
answers stand until the second grant (R32). -/
def Slot.fallBack (sl : Slot) (first : Replica × OpAnswer) : Slot :=
  { sl with
    fastPhase := .fallback
    firstAnswer := some first
    awaiting := true }

/-- The first phase's replica when it answered ERROR (R71). -/
def Slot.firstError (sl : Slot) : ReplicaSet :=
  match sl.firstAnswer with
  | some (r, .error) => Tri.only r
  | some (_, .pending) | some (_, .ok _) | some (_, .lost) | none => Tri.nobody

/-- The final decision of a memory read (R62 to R64, R67, R70, R71), with its reports (R75). -/
def State.decideRead (i : SlotId) (sl : Slot) (s : State) : State :=
  let answers := voterAnswers sl.voters
  let contributing := s.contributing answers
  let outcomes := voteWords contributing sl.length
  let status := readStatus sl.fastPhase outcomes
  let errors := ((answered answers .error).union sl.firstError).inter s.voting
  let f := findings sl.firstWord outcomes (contributors contributing) errors
  let s := s.answerSlot i
    { sl with status := some status, failedMask := failedMask outcomes, words := outcomes.map WordOutcome.value }
  let s := s.freeBlock sl.block
  let s := s.reportRead .upstreamRead sl.block f
  if status = .failed then s.raise .dataLoss else s

/-! ## The decision of a memory write (R72 to R74, R79 to R82) -/

/-- The status of a write from its VOTER entries (R72). -/
def writeStatus (answers : Tri (Option OpAnswer)) : Status :=
  let voters := (namedIn answers).count
  let good := (answeredOk answers).count
  if good = 0 then .failed
  else if voters = 1 then .single
  else if good = voters then .clean
  else .partialWrite

/-- Whether a write is a full-block write (R74). -/
def Slot.fullBlock (sl : Slot) : Bool := sl.length == 8 && sl.enables.all (· == Enables.all)

/-- The TARGET entry of a voter list (R62). -/
def targetEntry (voters : Tri (Option VoterEntry)) : Option (Replica × OpAnswer) :=
  (Replica.all.find? fun r =>
      match voters.get r with
      | some ⟨.target, _⟩ => true
      | some ⟨.voter, _⟩ | none => false).bind
    fun r => (voters.get r).map fun e => (r, e.answer)

/-- The TARGET entry's replica when its answer is ERROR or LOST, as a set (R73). -/
def targetMissed (voters : Tri (Option VoterEntry)) : ReplicaSet :=
  match targetEntry voters with
  | some (r, .error) | some (r, .lost) => Tri.only r
  | some (_, .pending) | some (_, .ok _) | none => Tri.nobody

/-- The replicas that answered ERROR, the TARGET entry's among them. -/
def allErrors (voters : Tri (Option VoterEntry)) : ReplicaSet :=
  Tri.ofFn fun r =>
    match voters.get r with
    | some ⟨_, .error⟩ => true
    | some ⟨_, .pending⟩ | some ⟨_, .ok _⟩ | some ⟨_, .lost⟩ | none => false

/-- WRITE_MISSED charges for a set of replicas. -/
def writeMissedCharges (m : ReplicaSet) : Tri (Option ChargeKind) :=
  Tri.ofFn fun r => if m.get r then some .writeMissed else none

/-- The removals of a full-block write (R81): each VOTER that answered OK and votes now. -/
def State.reportRemovals (sl : Slot) (s : State) : State :=
  if sl.fullBlock then
    let gone := (answeredOk (voterAnswers sl.voters)).inter s.voting
    Replica.all.foldl (fun s r => if gone.get r then s.removeRepair sl.block r else s) s
  else s

/-- The consequences of a write of which some VOTER answered OK (R79, with the TARGET entry of R73): missed replicas that vote
are inserted, those that answered ERROR are charged, and one record is made. -/
def State.reportMissed (sl : Slot) (s : State) : State :=
  let missed := ((answeredBad (voterAnswers sl.voters)).union (targetMissed sl.voters)).inter s.voting
  let charged := missed.inter (allErrors sl.voters)
  let ins := s.insertEach sl.block missed
  let s := ins.1.charges (writeMissedCharges charged)
  s.recordEvent
    { kind := .writeMissed, origin := .upstreamWrite, block := sl.block, mask := missed, word := none,
      queued := anyStored ins.2 missed }

/-- The consequences of a write of which no VOTER answered OK (R80): charges, one record of every VOTER that votes, DATA_LOSS. -/
def State.reportUnwritten (sl : Slot) (s : State) : State :=
  let answers := voterAnswers sl.voters
  let mask := (namedIn answers).inter s.voting
  let s := s.charges (writeMissedCharges ((answered answers .error).inter s.voting))
  let s := s.recordEvent
    { kind := .writeMissed, origin := .upstreamWrite, block := sl.block, mask := mask, word := none, queued := false }
  s.raise .dataLoss

/-- A target failure is reported when the TARGET entry failed and its replica is the rebuild target (R73, log 16). -/
def State.reportTarget (sl : Slot) (s : State) : State :=
  match targetEntry sl.voters with
  | some (r, .error) | some (r, .lost) => s.targetFailure r
  | some (_, .pending) | some (_, .ok _) | none => s

/-- The decision of a memory write (R72), with its reports (R75). -/
def State.decideWrite (i : SlotId) (sl : Slot) (s : State) : State :=
  let status := writeStatus (voterAnswers sl.voters)
  let s := s.answerSlot i { sl with status := some status }
  let s := s.freeBlock sl.block
  let s := s.reportRemovals sl
  let s := if status = .failed then s.reportUnwritten sl else s.reportMissed sl
  s.reportTarget sl

/-- The vote unit takes a slot that RT hands it (R61): a first phase that did not answer usefully falls back (R69), every other
slot is decided. -/
def State.decideSlot (i : SlotId) (s : State) : State :=
  match s.slot i with
  | none => s
  | some sl =>
    match sl.kind, sl.firstPhase with
    | .write, _ => s.decideWrite i sl
    | .read, none => s.decideRead i sl
    | .read, some (r, .ok words) =>
      if (s.account r).votes then s.decideRead i sl else s.setSlot i (some (sl.fallBack (r, .ok words)))
    | .read, some (r, x) => s.setSlot i (some (sl.fallBack (r, x)))

/-! ## Scrub reads (R83, R84) -/

/-- The walker's read has ended (R136): its lock is released, then the visit ends. -/
def State.endScrubRead (s : State) : State :=
  let s := { s with scrub := { s.scrub with op := .none } }
  let s := s.releaseLock .scrub
  { s with scrub := s.scrub.endVisit (s.spanBlocks - 1) }

/-- The decision of a scrub read (R83, R84): the consequences with origin SCRUB, DATA_LOSS only with a DIVERGENT record. -/
def State.decideScrub (s : State) : State :=
  match s.scrub.op with
  | .out answers =>
    let block := s.scrub.pointer
    let contributing := s.contributing answers
    let outcomes := voteWords contributing 8
    let errors := (answered answers .error).inter s.voting
    let f := findings 0 outcomes (contributors contributing) errors
    let s := s.reportRead .scrub block f
    let s := if f.divergentMask.isEmpty then s else s.raise .dataLoss
    s.endScrubRead
  | .none | .ready _ => s

end Sys2Proof.Machine
end

