-- ==== Sys2Proof/Machine/Engines.lean ====
section
/-! DEFINITION. What the repair engine and the copy engine do when an op of theirs has all its answers (chapters 6 and 8), and
the running of every decision that has become ready. -/

namespace Sys2Proof.Machine

open Sys2Proof

/-! ## The repair engine (sections 6.2, 6.3) -/

/-- A repair ends (R123): the record goes to IDLE and the lock is released. -/
def State.endRepair (s : State) : State := State.releaseLock .repair { s with repair := Repair.idle }

/-- The write set the repair would have now: mask replicas that vote, and the rebuild target for a block below the pointer
(R119). -/
def State.repairWriteSet (s : State) : ReplicaSet :=
  (s.repair.mask.inter s.voting).union (Tri.ofOption (s.writeTarget s.repair.block))

/-- The WRITE op is made ready with the block values, or the repair ends when the write set would be empty (R118, R119). -/
def State.beginRepairWrite (values : List Word) (s : State) : State :=
  if s.repairWriteSet.isEmpty then s.endRepair
  else { s with repair := { s.repair with phase := .write, values := values, op := .ready s.repairWriteSet } }

/-- The READ decision (R118). -/
def State.decideRepairRead (answers : Tri (Option OpAnswer)) (s : State) : State :=
  let contributing := s.contributing answers
  let who := contributors contributing
  let outcomes := voteWords contributing 8
  if who.isEmpty then
    State.endRepair (s.recordEvent
      { kind := .repairAbandoned, origin := .repair, block := s.repair.block, mask := s.repair.mask.inter s.voting,
        word := none, queued := false })
  else if outcomes.contains .divergent then
    let s := s.recordEvent
      { kind := .divergent, origin := .repair, block := s.repair.block, mask := who,
        word := outcomes.findIdx? (· == .divergent), queued := false }
    (s.raise .dataLoss).endRepair
  else s.beginRepairWrite (outcomes.map WordOutcome.value)

/-- The verify set: replicas that acknowledged the write and vote or are still the rebuild target it included (R121, R125). -/
def State.repairVerifySet (s : State) : ReplicaSet :=
  (answeredOk s.repair.writeSet).inter (s.voting.union (Tri.ofOption s.repair.target))

/-- The end of the write (R120): the rebuild target it included is reported when it failed and is still the target (R125), and the
phase becomes VERIFY (R121). -/
def State.endRepairWrite (answers : Tri (Option OpAnswer)) (s : State) : State :=
  let failed := (answeredBad answers).inter (Tri.ofOption s.repair.target)
  let s := { s with repair := { s.repair with writeSet := answers, targetReported := !failed.isEmpty } }
  let s := Replica.all.foldl (fun s r => if failed.get r then s.targetFailure r else s) s
  { s with repair := { s.repair with phase := .verify, op := readyOp s.repairVerifySet } }

/-- The replicas of the write set that have failed (R121): not acknowledged, or read back and not equal to the block values. -/
def Repair.failed (a : Repair) (answers : Tri (Option OpAnswer)) : ReplicaSet :=
  Tri.ofFn fun r =>
    (answeredBad a.writeSet).get r
      || (match answers.get r with
        | some (.ok words) => words != a.values
        | some .pending | some .error | some .lost => true
        | none => false)

/-- The re-insertion of the failed voters (R122 step 1), with the answer whether it was stored. -/
def State.reinsert (failed : ReplicaSet) (s : State) : State × Bool :=
  if s.repair.attempts < 2 then s.insertRepair s.repair.block failed (s.repair.attempts + 1) else (s, false)

/-- The verification outcome (R122): failed voters, and the rebuild target the write included while it is still the target
(R125). -/
def State.verifyOutcome (answers : Tri (Option OpAnswer)) (s : State) : State :=
  let block := s.repair.block
  let failed := s.repair.failed answers
  let voters := failed.inter s.voting
  let targets :=
    if s.repair.targetReported then Tri.nobody else (failed.inter (Tri.ofOption s.repair.target)).diff s.voting
  let ins := if voters.isEmpty then (s, false) else s.reinsert voters
  let s := ins.1.charges (Tri.ofFn fun r => if voters.get r then some .repairFailed else none)
  let s := Replica.all.foldl (fun s r => if targets.get r then s.targetFailure r else s) s
  let s := s.recordEvent
    { kind := .repairFailed, origin := .repair, block := block, mask := voters, word := none, queued := ins.2 }
  s.endRepair

/-- The repair engine acts on an op whose answers are all in. -/
def State.decideRepair (s : State) : State :=
  match s.repair.op, s.repair.phase with
  | .out answers, .read => s.decideRepairRead answers
  | .out answers, .write => s.endRepairWrite answers
  | .out answers, .verify => s.verifyOutcome answers
  | .out _, .idle | .out _, .claim | .none, _ | .ready _, _ => s

/-! ## The copy engine (sections 8.2, 8.3) -/

/-- The advance after a block (R147, R154): the pointer rises, the lock is released, and the next block is claimed; after the end
block the operation completes (R147, R156). -/
def State.copyAdvance (s : State) : State :=
  let last := s.copy.pointer == s.copy.endBlock
  let s := { s with copy := { s.copy with pointer := s.copy.pointer + 1, step := .claim, op := .none } }
  if last then s.copyEnd .completed
  else (s.releaseLock .copy).claim .copy s.copy.pointer

/-- The judgement of a fill write (R146). -/
def State.judgeFill (answers : Tri (Option OpAnswer)) (s : State) : State :=
  let block := s.copy.pointer
  let reached := !(answeredOk answers).isEmpty
  let missed := if reached then (answeredBad answers).inter s.voting else Tri.nobody
  let mask := if reached then missed else (namedIn answers).inter s.voting
  let ins := if missed.isEmpty then (s, false) else s.insertRepair block missed 0
  let s := ins.1.charges (writeMissedCharges ((answered answers .error).inter s.voting))
  let s := s.recordEvent
    { kind := .writeMissed, origin := .fill, block := block, mask := mask, word := none, queued := ins.2 }
  let s := if reached then s else s.raise .dataLoss
  s.copyAdvance

/-- The block decision of a rebuild (R152): the agreed values go to step WRITE, or the block is skipped. -/
def State.decideCopyRead (target : Replica) (answers : Tri (Option OpAnswer)) (s : State) : State :=
  let contributing := s.contributing answers
  let outcomes := voteWords contributing 8
  if outcomes.any (fun o => o.status == .failed) then
    let s := { s with copy := { s.copy with skipCount := s.copy.skipCount + 1 } }
    let s := s.recordEvent
      { kind := .rebuildSkipped, origin := .rebuild, block := s.copy.pointer, mask := Tri.only target,
        word := some ((outcomes.findIdx? (· == .divergent)).getD 0), queued := false }
    (s.raise .dataLoss).copyAdvance
  else
    { s with
      copy := { s.copy with step := .write, values := outcomes.map WordOutcome.value, op := .ready (Tri.only target) } }

/-- The end of a rebuild's write to its target (R153). -/
def State.endCopyWrite (answers : Tri (Option OpAnswer)) (s : State) : State :=
  if (answeredBad answers).isEmpty then s.copyAdvance else s.copyEnd .abortedTarget

/-- The copy engine acts on an op whose answers are all in. -/
def State.decideCopy (s : State) : State :=
  match s.copy.op, s.copy.kind, s.copy.step with
  | .out answers, .fill _, .write => s.judgeFill answers
  | .out answers, .rebuild r, .read => s.decideCopyRead r answers
  | .out answers, .rebuild _, .write => s.endCopyWrite answers
  | _, _, _ => s

/-! ## Running what has become ready -/

/-- Who may have something to decide. -/
inductive Decider where
  | slot (i : SlotId)
  | repair | copy | scrub
  deriving DecidableEq, Repr

/-- Whether a slot's phase has all its answers: ISSUED, not awaiting its fallback grant, nothing PENDING (R37). A WRITE whose VOTER
entries are all LOST at its grant waits while its TARGET entry is PENDING, as R61, R37 and R88 let it; that R67 has it decided at the
grant is the other reading (log 29). -/
def Slot.complete (sl : Slot) : Bool :=
  sl.state == .issued && !sl.awaiting
    && (Replica.all.all fun r =>
      match sl.voters.get r with
      | some ⟨_, .pending⟩ => false
      | some ⟨_, .ok _⟩ | some ⟨_, .error⟩ | some ⟨_, .lost⟩ | none => true)

/-- Whether an engine's op has all its answers. -/
def OpStage.complete : OpStage → Bool
  | .out answers => allIn answers
  | .none | .ready _ => false

/-- Whether a decider has a decision to make. -/
def State.mayDecide (s : State) : Decider → Bool
  | .slot i =>
    match s.slot i with
    | some sl => sl.complete
    | none => false
  | .repair =>
    s.repair.op.complete && (s.repair.phase == .read || s.repair.phase == .write || s.repair.phase == .verify)
  | .copy =>
    s.copy.op.complete
      && (match s.copy.kind, s.copy.step with
        | .fill _, .write | .rebuild _, .read | .rebuild _, .write => true
        | _, _ => false)
  | .scrub => s.scrub.op.complete

/-- Every decider, slots first. -/
def Decider.all : List Decider := (SlotId.all.map .slot) ++ [.repair, .copy, .scrub]

/-- The decisions that are ready. -/
def State.ready (s : State) : List Decider := Decider.all.filter s.mayDecide

/-- One decision, taken whole. -/
def State.decideFor (d : Decider) (s : State) : State :=
  match d with
  | .slot i => s.decideSlot i
  | .repair => s.decideRepair
  | .copy => s.decideCopy
  | .scrub => s.decideScrub

/-- The decisions that are ready are taken one after another, each whole (R61). Where several are ready the order is a free choice
(log 4). -/
def State.settleFor : Nat → State → State
  | 0, s => s
  | n + 1, s =>
    match s.ready with
    | [] => s
    | [d] => State.settleFor n (s.decideFor d)
    | d :: d' :: rest =>
      let k := Config.freeChoice s.freeIndex % (rest.length + 2)
      let chosen := (d :: d' :: rest).getD k d
      State.settleFor n ({ s with freeIndex := s.freeIndex + 1 }.decideFor chosen)

/-- What an event does last: every decision it has made ready is taken (log 5). -/
def State.settle (s : State) : State := State.settleFor Config.decisionBound s

end Sys2Proof.Machine
end

