-- ==== Sys2Proof/Machine/Aperture.lean ====
section
/-! DEFINITION. The aperture words (chapter 11): their access kinds, the value a read returns (section 11.6), and the writes of
settings, staging, alert and command words, each answering the outcome that RESULT shows. -/

namespace Sys2Proof.Machine

open Sys2Proof

/-! ## Reads -/

/-- The access kind of an aperture word (section 11.6). -/
inductive WordAccess where
  | unused | readOnly | writeOnly | readWrite
  deriving DecidableEq, Repr

/-- The access kind of word k: words 14 and 50 to 61 are unused (section 11.2). -/
def wordAccess (k : Nat) : WordAccess :=
  if k = 14 ∨ (50 ≤ k ∧ k ≤ 61) then .unused
  else if k = 9 ∨ k = 12 ∨ (40 ≤ k ∧ k ≤ 49) ∨ k = 62 then .writeOnly
  else if k = 13 ∨ (16 ≤ k ∧ k ≤ 22) then .readWrite
  else .readOnly

/-- The ten positions of a Causes of Bools (section 11.6). -/
def causesWord (m : Causes Bool) : Word :=
  Word.ofFields (Cause.all.map fun c => (c.position, 1, (m.get c).toNat))

/-- IDENT (word 0). -/
def State.identWord (s : State) : Word :=
  Word.ofFields
    [(0, 16, 0x0364), (16, 8, 0x01), (24, 2, s.pins.straps.span.toNat), (26, 1, s.pins.straps.present.a.toNat),
     (27, 1, s.pins.straps.present.b.toNat), (28, 1, s.pins.straps.present.c.toNat), (29, 1, s.pins.straps.knockEn.toNat)]

/-- STATUS (word 1). -/
def State.statusWord (s : State) : Word :=
  Word.ofFields
    [(0, 2, s.session.state.code), (2, 1, (s.account .a).votes.toNat), (3, 1, (s.account .b).votes.toNat),
     (4, 1, (s.account .c).votes.toNat), (5, 2, s.copy.kind.code), (7, 2, s.copy.state.code), (9, 3, s.scrub.state.code),
     (12, 6, s.queue.length), (18, 5, s.records.list.length)]

/-- REPLICA_A, REPLICA_B, REPLICA_C (words 2 to 4). -/
def State.replicaWord (s : State) (r : Replica) : Word :=
  let a := s.account r
  Word.ofFields
    [(0, 2, a.state.code), (2, 3, a.reason.code), (5, 10, a.score), (15, 2, (s.port r).state.code),
     (17, 2, a.alertMode.code)]

/-- The region or target field of COPY: the region of a FILL, the target of a REBUILD (section 11.6). With kind NONE there is neither
(R160), and the field reads 0, the model's choice (log 33). -/
def CopyKind.operand : CopyKind → Nat
  | .none => 0
  | .fill n => n.val
  | .rebuild r => r.number

/-- COPY (word 5): bits 59:35 hold the end block for kind FILL and NONE, the skip count for kind REBUILD. -/
def State.copyWord (s : State) : Word :=
  let c := s.copy
  let last :=
    match c.kind with
    | .none | .fill _ => c.endBlock
    | .rebuild _ => c.skipCount
  Word.ofFields
    [(0, 2, c.kind.code), (2, 2, c.state.code), (4, 3, c.outcome.code), (7, 3, c.kind.operand), (10, 25, c.pointer),
     (35, 25, last)]

/-- QUEUE (word 6): the head present position is clear when the depth is 0 (R107). What the spec gives no value for reads 0, the
model's choice: the head block index at depth 0 (log 35), the active repair block index in IDLE (log 32). -/
def State.queueWord (s : State) : Word :=
  Word.ofFields
    [(0, 6, s.queue.length), (6, 1, (!s.queue.isEmpty).toNat), (7, 24, (s.queue.head?.map (·.block)).getD 0),
     (31, 3, s.repair.phase.code), (34, 24, s.repair.block)]

/-- SCRUB (word 7). -/
def State.scrubWord (s : State) : Word :=
  Word.ofFields
    [(0, 3, s.scrub.state.code), (3, 2, s.scrub.reason.code), (5, 24, s.scrub.pointer), (29, 16, s.scrub.passCount)]

/-- The record word (section 11.6). -/
def FaultRecord.word64 (r : FaultRecord) : Word :=
  Word.ofFields
    [(0, 16, r.sequence), (16, 3, r.kind.code), (19, 3, r.origin.code), (22, 3, r.word.getD 0),
     (25, 1, r.word.isSome.toNat), (26, 3, maskCode r.mask), (29, 8, r.repeats), (37, 1, r.queued.toNat), (38, 24, r.block),
     (63, 1, 1)]

/-- RECORD_HEAD (word 8): the head record, or the empty marker, every bit 0 (R169). -/
def State.recordHeadWord (s : State) : Word :=
  match s.records.list with
  | [] => 0
  | r :: _ => r.word64

/-- RECORD_INFO (word 10). -/
def State.recordInfoWord (s : State) : Word :=
  Word.ofFields [(0, 5, s.records.list.length), (5, 8, s.records.lost), (13, 16, s.records.nextSeq)]

/-- The latches as a Causes (R175). -/
def Alerts.latches (a : Alerts) : Causes Bool where
  health := ⟨a.causes.health.a.latch, a.causes.health.b.latch, a.causes.health.c.latch⟩
  retire := a.causes.retire.latch
  dataLoss := a.causes.dataLoss.latch
  queueFull := a.causes.queueFull.latch
  degraded := a.causes.degraded.latch
  recordsLost := a.causes.recordsLost.latch
  copyDone := a.causes.copyDone.latch
  sessionExpired := a.causes.sessionExpired.latch

/-- RESULT (word 15). -/
def State.resultWord (s : State) : Word :=
  Word.ofFields [(0, 6, s.session.resultWord), (6, 3, s.session.resultOutcome.code)]

/-- THRESHOLDS (word 20). -/
def State.thresholdsWord (s : State) : Word :=
  let t := s.health.thresholds
  Word.ofFields [(0, 10, t.suspectAt), (10, 10, t.clearAt), (20, 10, t.retireAt), (30, 1, t.autoRetire.toNat)]

/-- TIMING (word 21). -/
def State.timingWord (s : State) : Word :=
  Word.ofFields
    [(0, 6, s.ports.replyTimeout), (6, 16, s.scrub.interval), (22, 1, s.scrub.on.toNat),
     (23, 1, s.regions.defaultScrub.toNat)]

/-- HOUSEKEEPING (word 22). -/
def State.housekeepingWord (s : State) : Word :=
  Word.ofFields
    [(0, 16, s.health.decayInterval), (16, 16, s.session.sessionIdle), (32, 2, (s.account .a).alertMode.code),
     (34, 2, (s.account .b).alertMode.code), (36, 2, (s.account .c).alertMode.code)]

/-- APERTURE (word 23). With no pending base its field reads 0, the model's choice (log 34). -/
def State.apertureWord (s : State) : Word :=
  Word.ofFields
    [(0, 30, s.session.base), (30, 30, s.session.pendingBase.getD 0), (60, 1, s.session.pendingBase.isSome.toNat)]

/-- The first word of REGIONn (word 24 + 2n). -/
def Descriptor.boundsWord (d : Descriptor) : Word := Word.ofFields [(0, 24, d.first), (24, 24, d.last)]

/-- The second word of REGIONn (word 25 + 2n). -/
def Descriptor.policyWord (d : Descriptor) (marked : Bool) : Word :=
  Word.ofFields [(0, 1, d.enabled.toNat), (1, 1, d.mode.code), (2, 1, d.scrub.toNat), (3, 1, marked.toNat)]

/-- The word 24 + j of the region words. -/
def Regions.regionWord (t : Regions) (j : Nat) : Word :=
  let n : RegionId := Fin.ofNat 8 (j / 2)
  if j % 2 = 0 then t.descriptors[n].boundsWord else t.descriptors[n].policyWord (t.fillMark == some n)

/-- What the idle timer holds after a restart (R192): stopped when SESSION_IDLE is 0. -/
def Session.restarted (c : Session) : Option Nat := if c.sessionIdle = 0 then none else some c.sessionIdle

/-- KNOCK (word 63): the session state and the ticks left on the idle timer, 0 when it is stopped. Whether the count shown is the
one before or after the restart this access makes is free (log 7). -/
def State.knockWord (s : State) : Word :=
  let timer := if Config.knockReadAfterRestart then s.session.restarted else s.session.idleTimer
  Word.ofFields [(0, 2, s.session.state.code), (2, 16, timer.getD 0)]

/-- The value a taken read of word k returns (R196, section 11.6). -/
def State.readWord (s : State) (k : Nat) : Word :=
  match k with
  | 0 => s.identWord
  | 1 => s.statusWord
  | 2 => s.replicaWord .a
  | 3 => s.replicaWord .b
  | 4 => s.replicaWord .c
  | 5 => s.copyWord
  | 6 => s.queueWord
  | 7 => s.scrubWord
  | 8 => s.recordHeadWord
  | 10 => s.recordInfoWord
  | 11 => causesWord s.alerts.latches
  | 13 => causesWord s.alerts.enable
  | 15 => s.resultWord
  | 16 => s.session.stages[0]
  | 17 => s.session.stages[1]
  | 18 => s.session.stages[2]
  | 19 => s.session.stages[3]
  | 20 => s.thresholdsWord
  | 21 => s.timingWord
  | 22 => s.housekeepingWord
  | 23 => s.apertureWord
  | 63 => s.knockWord
  | k => if 24 ≤ k ∧ k ≤ 39 then s.regions.regionWord (k - 24) else 0

/-! ## Writes of staging, settings and alert words -/

/-- STAGE0 to STAGE3 (R198). -/
def State.writeStage (i : Fin 4) (v : Word) (s : State) : ResultOutcome × State :=
  (.done, { s with session := { s.session with stages := s.session.stages.set i.val v i.isLt } })

/-- THRESHOLDS (R7, R8, R199). -/
def State.writeThresholds (v : Word) (s : State) : ResultOutcome × State :=
  let t := thresholdsOperand v
  if t.valid then (.done, State.forEach State.retest { s with health := { s.health with thresholds := t } })
  else (.refusedArgument, s)

/-- What a taken TIMING write does to the walker (R130). -/
def Scrub.retime (w : Scrub) (on : Bool) (interval : Nat) : Scrub :=
  let w' := { w with on := on, interval := interval }
  match w.state with
  | .off => if on then { w' with state := .waiting, timer := some interval } else w'
  | .waiting | .paused =>
    if !on then { w' with state := .off, reason := .none, timer := none }
    else if w.interval = interval then w'
    else { w' with timer := some interval }
  | .claiming | .reading => w'

/-- TIMING (R52, R92, R130, R199). -/
def State.writeTiming (v : Word) (s : State) : ResultOutcome × State :=
  let t := timingOperand v
  if t.valid then
    (.done,
      { s with
        ports := { s.ports with replyTimeout := t.replyTimeout }
        regions := { s.regions with defaultScrub := t.defaultScrub }
        scrub := s.scrub.retime t.scrubOn t.scrubInterval })
  else (.refusedArgument, s)

/-- The health alert mode of one replica takes a written value, and HEALTH_r is converted (R21, R183). -/
def State.setAlertMode (modes : Tri AlertMode) (r : Replica) (s : State) : State :=
  let old := (s.account r).alertMode
  let s := s.updateCause (.health r) (CauseState.convert old (modes.get r))
  s.setAccount r { s.account r with alertMode := modes.get r }

/-- HOUSEKEEPING (R9, R21, R199, R200). The idle timer is restarted by the access itself (R192). -/
def State.writeHousekeeping (v : Word) (s : State) : ResultOutcome × State :=
  match housekeepingOperand v with
  | none => (.refusedArgument, s)
  | some f =>
    let timer := if s.health.decayInterval = f.decayInterval then s.health.decayTimer else f.decayInterval
    let s :=
      { s with
        health := { s.health with decayInterval := f.decayInterval, decayTimer := timer }
        session := { s.session with sessionIdle := f.sessionIdle } }
    (.done, s.forEach (State.setAlertMode f.modes))

/-- Whether a written value sets a position that names no cause (R184, R185). -/
def setsUndefined (v : Word) : Bool := v.field 10 54 != 0

/-- ALERT_ACK (R184). -/
def State.writeAlertAck (v : Word) (s : State) : ResultOutcome × State :=
  if setsUndefined v then (.refusedArgument, s)
  else (.done, Cause.all.foldl (fun s c => if v.bit c.position then s.acknowledge c else s) s)

/-- The enable mask a written value carries (R185). -/
def enableOperand (v : Word) : Causes Bool where
  health := ⟨v.bit 0, v.bit 1, v.bit 2⟩
  retire := v.bit 3
  dataLoss := v.bit 4
  queueFull := v.bit 5
  degraded := v.bit 6
  recordsLost := v.bit 7
  copyDone := v.bit 8
  sessionExpired := v.bit 9

/-- ALERT_ENABLE (R185). -/
def State.writeAlertEnable (v : Word) (s : State) : ResultOutcome × State :=
  if setsUndefined v then (.refusedArgument, s)
  else (.done, State.refreshLine { s with alerts := { s.alerts with enable := enableOperand v } })

/-! ## Command words (section 11.4) -/

/-- RETIRE (R12). -/
def State.commandRetire (v : Word) (s : State) : ResultOutcome × State :=
  match replicaOperand v with
  | none => (.refusedArgument, s)
  | some r =>
    if !(s.account r).votes || s.votingCount == 1 then (.refusedState, s)
    else (.done, s.retire r .command)

/-- REBUILD (R16, R98, R149). -/
def State.commandRebuild (v : Word) (s : State) : ResultOutcome × State :=
  match replicaOperand v with
  | none => (.refusedArgument, s)
  | some r =>
    if s.copy.state ≠ .idle then (.busy, s)
    else if (s.account r).state ≠ .retired then (.refusedState, s)
    else if s.voting.isEmpty then (.refusedState, s)
    else
      let s :=
        { s with
          copy :=
            { s.copy with
              kind := .rebuild r
              state := .starting
              step := .none
              pointer := 0
              endBlock := s.spanBlocks - 1
              skipCount := 0
              op := .none } }
      let s := s.setAccount r { s.account r with state := .rebuilding, score := 0, reason := .none }
      (.done, s.rebuildPort r)

/-- FILL (R58, R112, R143). -/
def State.commandFill (v : Word) (s : State) : ResultOutcome × State :=
  match regionOperand v with
  | none => (.refusedArgument, s)
  | some n =>
    let d := s.regions.descriptors[n]
    if s.copy.state ≠ .idle then (.busy, s)
    else if !d.enabled then (.refusedState, s)
    else if s.voting.isEmpty then (.refusedState, s)
    else
      let s :=
        { s with
          copy :=
            { s.copy with
              kind := .fill n
              state := .running
              step := .claim
              pattern := s.session.stages[0]
              pointer := d.first
              endBlock := d.last
              skipCount := 0
              op := .none }
          regions := { s.regions with fillMark := some n } }
      (.done, (s.purgeQueue d.first d.last).claim .copy d.first)

/-- COPY_ABORT (R142, R158). -/
def State.commandCopyAbort (s : State) : ResultOutcome × State :=
  if s.copy.state = .idle then (.refusedState, s) else (.done, s.copyEnd .abortedCommand)

/-- Whether some enabled descriptor other than n shares a block with a range (R55 check 5). -/
def Regions.overlaps (t : Regions) (n : RegionId) (first last : Nat) : Bool :=
  [(0 : RegionId), 1, 2, 3, 4, 5, 6, 7].any fun m =>
    m != n && t.descriptors[m].enabled && decide (first ≤ t.descriptors[m].last) && decide (t.descriptors[m].first ≤ last)

/-- REGION_SET (R55, R56): STAGE0 first block, STAGE1 last block, STAGE2 read mode and scrub flag. -/
def State.commandRegionSet (v : Word) (s : State) : ResultOutcome × State :=
  match regionOperand v with
  | none => (.refusedArgument, s)
  | some n =>
    if s.regions.fillMark = some n then (.busy, s)
    else
      match readModeOperand s.session.stages[2], scrubOperand s.session.stages[2] with
      | some mode, some scrub =>
        let first := s.session.stages[0].toNat
        let last := s.session.stages[1].toNat
        if last < first ∨ s.spanBlocks ≤ last then (.refusedArgument, s)
        else if s.regions.overlaps n first last then (.refusedArgument, s)
        else
          let d : Descriptor := { enabled := true, first := first, last := last, mode := mode, scrub := scrub }
          (.done,
            { s with regions := { s.regions with descriptors := s.regions.descriptors.set n.val d n.isLt } })
      | _, _ => (.refusedArgument, s)

/-- REGION_CLEAR (R57). -/
def State.commandRegionClear (v : Word) (s : State) : ResultOutcome × State :=
  match regionOperand v with
  | none => (.refusedArgument, s)
  | some n =>
    if s.regions.fillMark = some n then (.busy, s)
    else
      let d := { s.regions.descriptors[n] with enabled := false }
      (.done, { s with regions := { s.regions with descriptors := s.regions.descriptors.set n.val d n.isLt } })

/-- SCORE_CLEAR (R15). -/
def State.commandScoreClear (v : Word) (s : State) : ResultOutcome × State :=
  match replicaOperand v with
  | none => (.refusedArgument, s)
  | some r =>
    let a := s.account r
    match a.state with
    | .retired | .rebuilding => (.refusedState, s)
    | .healthy => (.done, s.setAccount r { a with score := 0 })
    | .suspect => (.done, (s.setAccount r { a with score := 0, state := .healthy }).suspectLeave r)

/-- QUEUE_FLUSH (R113). -/
def State.commandQueueFlush (s : State) : ResultOutcome × State := (.done, s.setQueue [])

/-- MOVE_APERTURE (R194). -/
def State.commandMoveAperture (v : Word) (s : State) : ResultOutcome × State :=
  if v.toNat % 512 ≠ 0 ∨ s.spanBytes < v.toNat + 512 then (.refusedArgument, s)
  else (.done, { s with session := { s.session with pendingBase := some v.toNat } })

/-- A close of the session (R193). -/
def State.closeSession (s : State) : State :=
  { s with
    session :=
      { s.session with
        state := .closed
        idleTimer := none
        base := s.session.pendingBase.getD s.session.base
        pendingBase := none } }

/-! ## Soft reset (section 11.5) -/

/-- The alert unit clears its latches and acknowledge flags (R188). -/
def State.softClearAlerts (s : State) : State :=
  State.refreshLine
    { s with
      alerts :=
        { s.alerts with
          causes :=
            { health :=
                ⟨s.alerts.causes.health.a.softClear, s.alerts.causes.health.b.softClear,
                  s.alerts.causes.health.c.softClear⟩
              retire := s.alerts.causes.retire.softClear
              dataLoss := s.alerts.causes.dataLoss.softClear
              queueFull := s.alerts.causes.queueFull.softClear
              degraded := s.alerts.causes.degraded.softClear
              recordsLost := s.alerts.causes.recordsLost.softClear
              copyDone := s.alerts.causes.copyDone.softClear
              sessionExpired := s.alerts.causes.sessionExpired.softClear } } }

/-- The health monitor at soft reset, for one account (R23). -/
def Account.softReset (a : Account) : Account :=
  match a.state with
  | .healthy | .suspect => { a with state := .healthy, score := 0 }
  | .retired | .rebuilding => a

/-- The health monitor at soft reset (R23): no SUSPECT leave events. -/
def State.softResetAccounts (s : State) : State :=
  { s with
    health :=
      { s.health with
        accounts := ⟨(s.account .a).softReset, (s.account .b).softReset, (s.account .c).softReset⟩ } }

/-- The repair engine at soft reset (R128). -/
def State.softResetRepair (s : State) : State := { (s.setQueue []).abandon .repair with repair := Repair.idle }

/-- The walker at soft reset (R139). -/
def Scrub.softReset (w : Scrub) : Scrub :=
  { w with
    state := if w.on then .waiting else .off
    reason := .none
    pointer := 0
    timer := if w.on then some w.interval else none
    op := .none }

/-- The scrub walker at soft reset (R139). -/
def State.softResetScrub (s : State) : State :=
  let s := s.abandon .scrub
  { s with scrub := s.scrub.softReset }

/-- The alert unit takes HEALTH_r's suspect condition after the soft reset (R188): in LEVEL mode a true one latches. -/
def CauseState.retakeHealth (m : AlertMode) (b : Bool) (c : CauseState) : CauseState :=
  match m with
  | .level => c.retake b
  | .edge | .entry => { c with condition := b }

/-- The alert unit takes its level conditions after every other block has made its change (R188). -/
def State.retakeConditions (s : State) : State :=
  let health (s : State) (r : Replica) : State :=
    s.updateCause (.health r)
      (CauseState.retakeHealth (s.account r).alertMode (decide ((s.account r).state = .suspect)))
  let s := Replica.all.foldl health s
  let s := s.updateCause .queueFull (CauseState.retake (s.queue.length == Config.queueDepth))
  s.updateCause .degraded (CauseState.retake (decide (s.votingCount < 3)))

/-- SOFT_RESET (R202), the orderings of its three fixed points kept: latches cleared first, conditions taken after every other
block, the session closed last. -/
def State.commandSoftReset (s : State) : ResultOutcome × State :=
  let s := s.softClearAlerts.softResetAccounts
  let s := if s.copy.state = .idle then s else s.copyEnd .abortedReset
  let s := s.softResetRepair.softResetScrub
  let s := { s with records := { list := [], nextSeq := 0, lost := 0 } }
  (.done, s.retakeConditions.closeSession)

/-- CLOSE (R193). -/
def State.commandClose (s : State) : ResultOutcome × State := (.done, s.closeSession)

/-- A taken write of word k reaches its owner (R195 check 5). Words of no write access answer nothing; they are refused before. -/
def State.writeWord (k : Nat) (v : Word) (s : State) : ResultOutcome × State :=
  match k with
  | 9 => s.recordRelease v
  | 12 => s.writeAlertAck v
  | 13 => s.writeAlertEnable v
  | 16 => s.writeStage 0 v
  | 17 => s.writeStage 1 v
  | 18 => s.writeStage 2 v
  | 19 => s.writeStage 3 v
  | 20 => s.writeThresholds v
  | 21 => s.writeTiming v
  | 22 => s.writeHousekeeping v
  | 40 => s.commandRetire v
  | 41 => s.commandRebuild v
  | 42 => s.commandFill v
  | 43 => s.commandCopyAbort
  | 44 => s.commandRegionSet v
  | 45 => s.commandRegionClear v
  | 46 => s.commandScoreClear v
  | 47 => s.commandQueueFlush
  | 48 => s.commandMoveAperture v
  | 49 => s.commandSoftReset
  | 62 => s.commandClose
  | _ => (.none, s)

end Sys2Proof.Machine
end

