-- ==== Sys2Proof/WellFormed.lean ====
section
/-! DEFINITION. Which terms of Instr are commands the interface can carry (R24): a WRITE carries one set of byte enables and
one data word for each word of its length. Every other operand is bounded by its type. -/

namespace Sys2Proof

/-- The write data of a request has `length` words, and so have its enables (R24). -/
def Access.wellFormed (length : Fin 16) : Access → Bool
  | .read => true
  | .write enables data => enables.length == length.val && data.length == length.val

/-- R24 for a whole request. -/
def Request.wellFormed (r : Request) : Bool := r.access.wellFormed r.length

/-- Whether a command is one the interface can carry. -/
def Instr.wellFormed : Instr → Bool
  | .requestAccept r => r.wellFormed
  | .apertureWrite _ _ length enables data => (Access.write enables data).wellFormed length
  | .hardwareReset _ | .stageWrite _ _ _ | .thresholds _ _ | .timing _ _ | .housekeeping _ _ | .alertAck _ _
  | .alertEnable _ _ | .recordRelease _ _ | .retire _ _ | .rebuild _ _ | .fill _ _ | .copyAbort _ _ | .regionSet _ _
  | .regionClear _ _ | .scoreClear _ _ | .queueFlush _ _ | .moveAperture _ _ | .softReset _ _ | .close _ _
  | .sessionIdleExpiry | .responseTaken | .upstreamGrant | .repairReadGrant | .repairWriteGrant | .repairVerifyGrant
  | .scrubReadGrant | .fillWriteGrant | .rebuildReadGrant | .rebuildWriteGrant | .bankOpAccept _ | .portAnswer _ _
  | .blockClaimGrant _ | .portTimeout _ | .abortDone _ | .portDead _ | .decayExpiry | .scrubIntervalExpiry | .repairTake
  | .resetNRelease | .abortDoneDeassert _ => true

end Sys2Proof
end

