-- ==== Sys2Proof/Machine/Acceptance.lean ====
section
/-! DEFINITION. The acceptance of one upstream request (sections 2.1, 2.2, 11.1, 11.2): the checks of R26, the routes, the knock,
and the answer of an aperture access. -/

namespace Sys2Proof.Machine

open Sys2Proof

/-- The FREE slot a request takes: the lowest (its number is not visible, R32, log 12). -/
def State.freeSlot (s : State) : Option SlotId := SlotId.all.find? fun i => (s.slot i).isNone

/-- Whether the upstream port asserts accept (R25); it accepts nothing while RESET_N is asserted (R47, log 20). -/
def State.accepting (s : State) : Bool := !s.pins.resetAsserted && s.freeSlot.isSome && s.rt.holding.isNone

/-- Whether a tag is the tag of a slot that is not FREE (R26 check 1). -/
def State.tagInUse (s : State) (tag : Tag) : Bool :=
  SlotId.all.any fun i =>
    match s.slot i with
    | some sl => sl.tag == tag
    | none => false

/-- Whether a block lies within the control aperture (R189). -/
def Session.covers (c : Session) (block : Nat) : Bool := decide (c.base / 64 ≤ block) && decide (block ≤ c.base / 64 + 7)

/-- What the checks of R26 make of a request. -/
inductive Verdict where
  | tagInUse
  | refused (reason : Reason)
  | aperture
  | memory
  deriving DecidableEq, Repr

/-- The checks of R26, in their order. -/
def State.check (s : State) (r : Request) : Verdict :=
  if s.tagInUse r.tag then .tagInUse
  else if r.length.val = 0 ∨ 8 < r.length.val ∨ 8 < r.firstWord + r.length.val then .refused .malformed
  else if s.spanBlocks ≤ r.block then .refused .outOfSpan
  else if s.session.state = .opened ∧ s.session.covers r.block then .aperture
  else if s.regions.filling r.block then .refused .filling
  else .memory

end Sys2Proof.Machine

namespace Sys2Proof

open Sys2Proof.Machine

/-- The direction of a request. -/
def Access.kind : Access → Kind
  | .read => .read
  | .write _ _ => .write

/-- The byte enables of a request; a read has none (R32). -/
def Access.enables : Access → List Enables
  | .read => []
  | .write enables _ => enables

/-- The write data of a request; a read has none (R32). -/
def Access.data : Access → List Word
  | .read => []
  | .write _ data => data

/-- The slot record of a request at its acceptance (R32); `policy` is absent for aperture and refused requests. -/
def Request.slot (r : Request) (state : SlotState) (route : Route) (policy : Option ReadMode) : Slot where
  state := state
  tag := r.tag
  kind := r.access.kind
  block := r.block
  firstWord := r.firstWord
  length := r.length.val
  enables := r.access.enables
  data := r.access.data
  route := route
  policy := policy
  fastPhase := if policy = some .fast ∧ r.access.kind = .read then .first else .none
  firstAnswer := none
  awaiting := false
  targets := Tri.nobody
  voters := ⟨none, none, none⟩
  status := none
  reason := none
  failedMask := 0
  words := []

end Sys2Proof

namespace Sys2Proof.Machine

open Sys2Proof

/-! ## Answers given at acceptance -/

/-- A slot enters ANSWERED directly from FREE (R28, R30), and joins the answer order list (R43). -/
def State.placeAnswered (i : SlotId) (sl : Slot) (s : State) : State :=
  let s := s.setSlot i (some sl)
  State.presentNext { s with rt := { s.rt with answerOrder := s.rt.answerOrder ++ [i] } }

/-- A refused request takes its slot (R28). A request refused by checks 2, 3 or 5 of R26 has passed on to neither route: its route
field holds MEMORY, the model's choice, which nothing reads (log 31). -/
def State.placeRefused (i : SlotId) (r : Request) (route : Route) (reason : Reason) (s : State) : State :=
  s.placeAnswered i { r.slot .answered route none with status := some .refused, reason := some reason }

/-- A request refused for TAG_IN_USE goes to the holding place (R27). -/
def State.holdRefusal (tag : Tag) (s : State) : State :=
  State.presentNext { s with rt := { s.rt with holding := some tag } }

/-- A memory request takes its slot: the policy snapshot (R31), the acceptance order list (R34), WAITING or READY (R35). -/
def State.placeMemory (i : SlotId) (r : Request) (s : State) : State :=
  let heldBack := (s.oldestFor r.block).isSome || s.held r.block || s.draining r.block
  let sl := r.slot (if heldBack then .waiting else .ready) .memory (some (s.regions.lookup r.block).mode)
  let s := s.setSlot i (some sl)
  { s with rt := { s.rt with acceptOrder := s.rt.acceptOrder ++ [i] } }

/-! ## The knock (R190, R191) -/

/-- The word address of the knock word (R189). -/
def Session.knockWord (c : Session) : Nat := c.base / 8 + 63

/-- Whether a request is a knock write carrying a value: not refused, length 1, full enables, the knock word (R190). -/
def Session.isKnock (c : Session) (r : Request) (refused : Bool) (value : Word) : Bool :=
  !refused && r.length.val == 1 && r.address.toNat == c.knockWord && r.access == .write [Enables.all] [value]

/-- The session after CS judges a write (R190): CS judges no write with KNOCK_EN low. -/
def Session.judge (c : Session) (knockEn : Bool) (r : Request) (refused : Bool) : Session :=
  if !knockEn then c
  else
    match c.state with
    | .opened => c
    | .closed => if c.isKnock r refused Word.ones then { c with state := .armed } else c
    | .armed =>
      if c.isKnock r refused Word.ones then c
      else if c.isKnock r refused 0 then { c with state := .opened, idleTimer := c.restarted }
      else { c with state := .closed }

/-- CS is presented every accepted write, reads not (R29, R190). -/
def State.judgeWrite (r : Request) (refused : Bool) (s : State) : State :=
  match r.access.kind with
  | .read => s
  | .write => { s with session := s.session.judge s.pins.straps.knockEn r refused }

/-! ## Aperture accesses (R30, R195) -/

/-- Whether CS takes an access to word k (R195 checks 1 to 4). -/
def takesAccess (r : Request) (k : Nat) : Bool :=
  r.length.val == 1
    && (match r.access, wordAccess k with
      | .read, .readOnly | .read, .readWrite => true
      | .write enables _, .writeOnly | .write enables _, .readWrite => enables == [Enables.all]
      | .read, .unused | .read, .writeOnly | .write _ _, .unused | .write _ _, .readOnly => false)

/-- The idle timer restarts at each request routed APERTURE (R192), with SESSION_IDLE as the access leaves it (R200); a session
the access has closed has no timer (R193). -/
def State.restartIdle (s : State) : State :=
  if s.session.state = .opened then { s with session := { s.session with idleTimer := s.session.restarted } } else s

/-- RESULT after a taken write (R197). -/
def State.setResult (k : Nat) (o : ResultOutcome) (s : State) : State :=
  { s with session := { s.session with resultWord := k, resultOutcome := o } }

/-- The answer of a taken write by its outcome (R30, R197): CLEAN for DONE, else REFUSED with APERTURE_INVALID. -/
def State.answerWrite (i : SlotId) (r : Request) (o : ResultOutcome) (s : State) : State :=
  if o = .done then s.placeAnswered i { r.slot .answered .aperture none with status := some .clean }
  else s.placeRefused i r .aperture .apertureInvalid

/-- A taken write of word k (R195 check 5, R197): its owner acts, RESULT and the answer follow, the idle timer restarts. -/
def State.takeWrite (i : SlotId) (r : Request) (k : Nat) (v : Word) (s : State) : State :=
  let res := s.writeWord k v
  (((res.2.setResult k res.1).answerWrite i r res.1)).restartIdle

/-- A taken read of word k (R30, R196). -/
def State.takeRead (i : SlotId) (r : Request) (k : Nat) (s : State) : State :=
  let sl := { r.slot .answered .aperture none with status := some .clean, words := [s.readWord k] }
  (s.placeAnswered i sl).restartIdle

/-- Whether a write of word k can make decisions ready: RETIRE, COPY_ABORT and SOFT_RESET empty issue lists and release locks. -/
def mayReady (k : Nat) : Bool := k == 40 || k == 43 || k == 49

/-- CS answers a request routed APERTURE (R30, R195). -/
def State.accessAperture (i : SlotId) (r : Request) (s : State) : State :=
  let k := r.address.toNat - s.session.base / 8
  if takesAccess r k then
    match r.access.data with
    | [] => s.takeRead i r k
    | v :: _ => if mayReady k then (s.takeWrite i r k v).settle else s.takeWrite i r k v
  else (s.placeRefused i r .aperture .apertureInvalid).restartIdle

/-! ## The acceptance -/

/-- The acceptance of a presented request (R25, R26). While the port does not accept, the request stays with the master and
nothing changes (log 1). -/
def State.accept (r : Request) (s : State) : State :=
  if s.accepting then
    match s.freeSlot with
    | none => s
    | some i =>
      match s.check r with
      | .tagInUse => (s.holdRefusal r.tag).judgeWrite r true
      | .refused reason => (s.placeRefused i r .memory reason).judgeWrite r true
      | .aperture => s.accessAperture i r
      | .memory => (s.placeMemory i r).judgeWrite r false
  else s

/-- A WRITE request of one whole word to aperture word k, at the aperture's present place (R189). -/
def State.wordWrite (s : State) (tag : Tag) (k : Nat) (v : Word) : Request where
  tag := tag
  address := BitVec.ofNat 32 (s.session.base / 8 + k)
  length := 1
  access := .write [Enables.all] [v]

/-- The acceptance of a write of one whole word to aperture word k (log 8). -/
def State.acceptWordWrite (tag : Tag) (k : Nat) (v : Word) (s : State) : State := s.accept (s.wordWrite tag k v)

end Sys2Proof.Machine
end

