-- ==== Sys2Proof/Machine/Upstream.lean ====
section
/-! DEFINITION. The commands of the upstream side: REQUEST_ACCEPT, the rows that are a write to one aperture word, and
RESPONSE_TAKEN. A row that is a write to word k is the acceptance of a WRITE request of one whole word at the place word k has
now: with the session OPEN it is the aperture write of its rule; with the session not OPEN the same request is a memory write
(R29, R192), as the spec says of an aperture write that comes too late (log 8). -/

namespace Sys2Proof.Machine

open Sys2Proof

/-- What a command answers. -/
abbrev Result := Host.Outcome State Fault Refusal

/-- REQUEST_ACCEPT (R25, R26). A term that is no request of R24 is refused by name (log 17). -/
def execRequestAccept (r : Request) (s : State) : Result :=
  if r.wellFormed then .next (s.accept r) else .refused (.illFormedRequest "REQUEST_ACCEPT")

/-- APERTURE_WRITE (R195): a WRITE request to aperture word `word`, with any length and enables. A term that is no request of R24
is refused by name (log 17). -/
def execApertureWrite (tag : Tag) (word : Fin 64) (length : Fin 16) (enables : List Enables) (data : List Word)
    (s : State) : Result :=
  let r : Request :=
    { tag := tag
      address := BitVec.ofNat 32 (s.session.base / 8 + word.val)
      length := length
      access := .write enables data }
  if r.wellFormed then .next (s.accept r) else .refused (.illFormedRequest "APERTURE_WRITE")

/-- STAGE_WRITE (R198): a write to word 16 + stage. -/
def execStageWrite (tag : Tag) (stage : Fin 4) (value : Word) (s : State) : Result :=
  .next (s.acceptWordWrite tag (16 + stage.val) value)

/-- THRESHOLDS (R7, R8): a write to word 20. -/
def execThresholds (tag : Tag) (value : Word) (s : State) : Result := .next (s.acceptWordWrite tag 20 value)

/-- TIMING (R130): a write to word 21. -/
def execTiming (tag : Tag) (value : Word) (s : State) : Result := .next (s.acceptWordWrite tag 21 value)

/-- HOUSEKEEPING (R199): a write to word 22. -/
def execHousekeeping (tag : Tag) (value : Word) (s : State) : Result := .next (s.acceptWordWrite tag 22 value)

/-- ALERT_ACK (R184): a write to word 12. -/
def execAlertAck (tag : Tag) (value : Word) (s : State) : Result := .next (s.acceptWordWrite tag 12 value)

/-- ALERT_ENABLE (R185): a write to word 13. -/
def execAlertEnable (tag : Tag) (value : Word) (s : State) : Result := .next (s.acceptWordWrite tag 13 value)

/-- RECORD_RELEASE (R170): a write to word 9. -/
def execRecordRelease (tag : Tag) (value : Word) (s : State) : Result := .next (s.acceptWordWrite tag 9 value)

/-- RETIRE (R12): a write to command word 40. -/
def execRetire (tag : Tag) (value : Word) (s : State) : Result := .next (s.acceptWordWrite tag 40 value)

/-- REBUILD (R149): a write to command word 41. -/
def execRebuild (tag : Tag) (value : Word) (s : State) : Result := .next (s.acceptWordWrite tag 41 value)

/-- FILL (R143): a write to command word 42. -/
def execFill (tag : Tag) (value : Word) (s : State) : Result := .next (s.acceptWordWrite tag 42 value)

/-- COPY_ABORT (R158): a write to command word 43. -/
def execCopyAbort (tag : Tag) (value : Word) (s : State) : Result := .next (s.acceptWordWrite tag 43 value)

/-- REGION_SET (R55): a write to command word 44. -/
def execRegionSet (tag : Tag) (value : Word) (s : State) : Result := .next (s.acceptWordWrite tag 44 value)

/-- REGION_CLEAR (R57): a write to command word 45. -/
def execRegionClear (tag : Tag) (value : Word) (s : State) : Result := .next (s.acceptWordWrite tag 45 value)

/-- SCORE_CLEAR (R15): a write to command word 46. -/
def execScoreClear (tag : Tag) (value : Word) (s : State) : Result := .next (s.acceptWordWrite tag 46 value)

/-- QUEUE_FLUSH (R113): a write to command word 47. -/
def execQueueFlush (tag : Tag) (value : Word) (s : State) : Result := .next (s.acceptWordWrite tag 47 value)

/-- MOVE_APERTURE (R194): a write to command word 48. -/
def execMoveAperture (tag : Tag) (value : Word) (s : State) : Result := .next (s.acceptWordWrite tag 48 value)

/-- SOFT_RESET (R202): a write to command word 49. -/
def execSoftReset (tag : Tag) (value : Word) (s : State) : Result := .next (s.acceptWordWrite tag 49 value)

/-- CLOSE (R193): a write to word 62. -/
def execClose (tag : Tag) (value : Word) (s : State) : Result := .next (s.acceptWordWrite tag 62 value)

/-- RESPONSE_TAKEN (R45): the slot of the taken response becomes FREE, or the holding place empties, and the next response is
presented (R43). With nothing presented nothing is taken (log 1). -/
def execResponseTaken (s : State) : Result :=
  match s.rt.channel with
  | none => .next s
  | some p =>
    let s := { s with rt := { s.rt with channel := none } }
    match p.source with
    | .slot i => .next (s.setSlot i none).presentNext
    | .holding => .next (State.presentNext { s with rt := { s.rt with holding := none } })

end Sys2Proof.Machine
end

