-- ==== Sys2Proof/Machine/Grants.lean ====
section
/-! DEFINITION. The grants of the issue arbiter (sections 4.2, 4.3, 5.5 and the engine chapters), the block lock set's
BLOCK_CLAIM_GRANT and the repair engine's REPAIR_TAKE. A grant that the arbiter would not make now cannot occur: it changes
nothing (log 1). -/

namespace Sys2Proof.Machine

open Sys2Proof

/-! ## The upstream grant -/

/-- The better of two voting replicas for a first phase: the lower score, ties to the earlier (R68). -/
def State.lowerScore (s : State) (best : Option Replica) (r : Replica) : Option Replica :=
  if !(s.account r).votes then best
  else
    match best with
    | none => some r
    | some chosen => if (s.account r).score < (s.account chosen).score then some r else some chosen

/-- The replica of a FAST read's first phase (R68): the voting replica with the lowest score, ties A before B before C. -/
def State.firstChoice (s : State) : Option Replica := Replica.all.foldl s.lowerScore none

/-- The roles of a slot's voter list at its grant (R65, R66, R68, R70). -/
def State.roles (s : State) (sl : Slot) : Tri (Option Role) :=
  match sl.kind, sl.fastPhase with
  | .read, .none => Tri.ofFn fun r => if s.voting.get r then some .voter else none
  | .read, .first => Tri.ofFn fun r => if s.firstChoice = some r then some .voter else none
  | .read, .fallback =>
    Tri.ofFn fun r =>
      if s.voting.get r && !(sl.firstAnswer.any fun f => f.1 == r) then some .voter else none
  | .write, _ =>
    Tri.ofFn fun r =>
      if s.voting.get r then some .voter else if s.writeTarget sl.block = some r then some .target else none

/-- The op a slot's grant issues (R65, R88). -/
def Slot.op (sl : Slot) (i : SlotId) : Op where
  owner := .slot i
  kind := sl.kind
  block := sl.block
  firstWord := sl.firstWord
  length := sl.length
  enables := sl.enables
  data := sl.data
  origin :=
    match sl.kind with
    | .read => .upstreamRead
    | .write => .upstreamWrite

/-- The slot after its grant (R32, R36, R62): ISSUED, with its voter list and target set. -/
def State.grantedSlot (s : State) (sl : Slot) : Slot :=
  let roles := s.roles sl
  let answers := s.grantAnswers (Tri.ofFn fun r => (roles.get r).isSome)
  { sl with
    state := .issued
    awaiting := false
    targets := Tri.ofFn fun r => answers.get r == some .pending
    voters := Tri.ofFn fun r =>
      match roles.get r, answers.get r with
      | some role, some x => some ⟨role, x⟩
      | _, _ => none }

/-- The run count after a grant to the upstream side (R104). -/
def State.countUpstream (s : State) : State :=
  let n := if s.topEngine.isSome then min (s.ports.runCount + 1) Config.runLimit else 0
  { s with ports := { s.ports with runCount := n } }

/-- The grant of one slot (R36, R102). -/
def State.grantSlot (i : SlotId) (sl : Slot) (s : State) : State :=
  let granted := s.grantedSlot sl
  let named := Tri.ofFn fun r => (granted.voters.get r).isSome
  (((s.countUpstream).issue (sl.op i) named).setSlot i (some granted)).settle

/-- UPSTREAM_GRANT (R36): the slot offered is granted. -/
def execUpstreamGrant (s : State) : Result :=
  match s.arbiter with
  | some (.upstream i) =>
    match s.slot i with
    | some sl => .next (s.grantSlot i sl)
    | none => .next s
  | some (.engine _) | none => .next s

/-! ## The grants of the engines -/

/-- An engine's op is issued to the replicas it names, its answers begin, and the run count returns to 0 (R102, R104). -/
def State.grantEngine (e : Engine) (op : Op) (named : ReplicaSet) (s : State) : State :=
  let answers := s.grantAnswers named
  let s := s.issue op named
  let s := { s with ports := { s.ports with runCount := 0 } }
  (s.setEngineOp e (.out answers)).settle

/-- The 8-word read op of an engine. -/
def engineRead (e : Engine) (block : Nat) (origin : Origin) : Op where
  owner := .engine e
  kind := .read
  block := block
  firstWord := 0
  length := 8
  enables := []
  data := []
  origin := origin

/-- The 8-word write op of an engine, every byte enabled. -/
def engineWrite (e : Engine) (block : Nat) (values : List Word) (origin : Origin) : Op where
  owner := .engine e
  kind := .write
  block := block
  firstWord := 0
  length := 8
  enables := List.replicate 8 Enables.all
  data := values
  origin := origin

/-- The replicas an engine's ready op names. -/
def OpStage.named : OpStage → ReplicaSet
  | .ready named => named
  | .none | .out _ => Tri.nobody

/-- REPAIR_READ_GRANT (R117): the sources named when the op was made ready, but those retired since (R14). -/
def execRepairReadGrant (s : State) : Result :=
  if s.arbiter = some (.engine .repair) ∧ s.repair.phase = .read then
    .next (s.grantEngine .repair (engineRead .repair s.repair.block .repair) (s.repair.op.named.inter s.voting))
  else .next s

/-- REPAIR_WRITE_GRANT (R119): the write set is fixed now, and with it whether it holds the rebuild target (R125). -/
def execRepairWriteGrant (s : State) : Result :=
  if s.arbiter = some (.engine .repair) ∧ s.repair.phase = .write then
    .next
      (State.grantEngine .repair (engineWrite .repair s.repair.block s.repair.values .repair) s.repairWriteSet
        { s with repair := { s.repair with target := s.writeTarget s.repair.block } })
  else .next s

/-- REPAIR_VERIFY_GRANT (R121): the verify set is fixed now. -/
def execRepairVerifyGrant (s : State) : Result :=
  if s.arbiter = some (.engine .repair) ∧ s.repair.phase = .verify then
    .next (s.grantEngine .repair (engineRead .repair s.repair.block .repair) s.repairVerifySet)
  else .next s

/-- SCRUB_READ_GRANT (R83, R135): every replica voting now. -/
def execScrubReadGrant (s : State) : Result :=
  if s.arbiter = some (.engine .scrub) ∧ s.scrub.state = .reading then
    .next (s.grantEngine .scrub (engineRead .scrub s.scrub.pointer .scrub) s.voting)
  else .next s

/-- Whether the copy engine runs a fill. -/
def CopyKind.isFill : CopyKind → Bool
  | .fill _ => true
  | .none | .rebuild _ => false

/-- Whether the copy engine runs a rebuild. -/
def CopyKind.isRebuild : CopyKind → Bool
  | .rebuild _ => true
  | .none | .fill _ => false

/-- FILL_WRITE_GRANT (R145): the pattern in every word, to every replica voting now. -/
def execFillWriteGrant (s : State) : Result :=
  if s.arbiter = some (.engine .copy) ∧ s.copy.kind.isFill = true ∧ s.copy.step = .write then
    .next
      (s.grantEngine .copy (engineWrite .copy s.copy.pointer (List.replicate 8 s.copy.pattern) .fill) s.voting)
  else .next s

/-- REBUILD_READ_GRANT (R151): the sources named when the op was made ready, but those retired since (R14). -/
def execRebuildReadGrant (s : State) : Result :=
  if s.arbiter = some (.engine .copy) ∧ s.copy.kind.isRebuild = true ∧ s.copy.step = .read then
    .next (s.grantEngine .copy (engineRead .copy s.copy.pointer .rebuild) (s.copy.op.named.inter s.voting))
  else .next s

/-- REBUILD_WRITE_GRANT (R153): the target alone. -/
def execRebuildWriteGrant (s : State) : Result :=
  if s.arbiter = some (.engine .copy) ∧ s.copy.kind.isRebuild = true ∧ s.copy.step = .write then
    .next (s.grantEngine .copy (engineWrite .copy s.copy.pointer s.copy.values .rebuild) s.copy.op.named)
  else .next s

/-! ## Claims -/

/-- BLOCK_CLAIM_GRANT (R40): RT grants the engine's pending claim; a scrub claim on a block that another engine holds or that is
under a draining hold is refused (R41). Otherwise the claim stays pending. -/
def execBlockClaimGrant (e : Engine) (s : State) : Result :=
  match (s.lock e).claim with
  | none => .next s
  | some block =>
    if s.claimWins e block then .next (s.grantClaim e block).settle
    else if e = .scrub ∧ (s.heldByOther .scrub block || s.draining block) = true then .next s.skipScrub
    else .next s

/-- REPAIR_TAKE (R115): the IDLE engine takes the head of the queue, fixes its sources, and claims the block. -/
def execRepairTake (s : State) : Result :=
  match s.repair.phase, s.queue with
  | .idle, head :: rest =>
    let a : Repair :=
      { Repair.idle with
        phase := .claim
        block := head.block
        mask := head.mask
        attempts := head.attempts
        sources := s.voting.diff head.mask }
    .next (({ s.setQueue rest with repair := a }).claim .repair head.block)
  | .idle, [] => .next s
  | .claim, _ | .read, _ | .write, _ | .verify, _ => .next s

end Sys2Proof.Machine
end

