-- ==== Sys2Proof/Machine/PortEvents.lean ====
section
/-! DEFINITION. The events at the replica ports (chapter 5): acceptance by a bank, an answer, a timeout, the abort handshake, a
dead port; and the passing of ticks that a deadline or a limit counts. -/

namespace Sys2Proof.Machine

open Sys2Proof

/-! ## The timebase (00_scope: every timer counts ticks) -/

/-- A port after n tick boundaries: its deadlines and its abort limit have come nearer (R92, R96). -/
def Port.advance (n : Nat) (p : Port) : Port :=
  { p with
    list := p.list.map fun x => { x with deadline := x.deadline - n }
    abortLimit := p.abortLimit.map (· - n) }

/-- n tick boundaries pass: every running timer has counted n more (R9, R92, R96, R131, R192). The deadline of an entry behind the
head stays at 0 once it is reached (R93). -/
def State.advance (n : Nat) (s : State) : State :=
  { s with
    health := { s.health with decayTimer := s.health.decayTimer - n }
    scrub := { s.scrub with timer := s.scrub.timer.map (· - n) }
    session := { s.session with idleTimer := s.session.idleTimer.map (· - n) }
    ports := { s.ports with port := Tri.ofFn fun r => (s.port r).advance n } }

/-! ## Acceptance and answers -/

/-- BANK_OP_ACCEPT (R89): the op presented on a READY port is accepted by the bank. -/
def execBankOpAccept (r : Replica) (s : State) : Result :=
  match (s.port r).state with
  | .ready => .next (s.setPort r { s.port r with list := acceptFirst (s.port r).list })
  | .aborting | .off => .next s

/-- The five steps of a timeout (R95), in their order; the owners' decisions follow when the event settles (log 5). -/
def State.timeOut (r : Replica) (head : IssueEntry) (s : State) : State :=
  let s := (s.emptyPort r).charge r .timeout
  let s := s.recordEvent
    { kind := .timeout, origin := head.op.origin, block := head.op.block, mask := Tri.only r, word := none,
      queued := false }
  (s.assertAbort r).settle

/-- The head of a READY port's list expires when its deadline is reached, also when it was reached before the entry became the head
(R93, R95). -/
def State.expireHead (r : Replica) (s : State) : State :=
  match (s.port r).state, (s.port r).list with
  | .ready, head :: _ => if head.deadline = 0 then s.timeOut r head else s
  | .ready, [] | .aborting, _ | .off, _ => s

/-- PORT_ANSWER (R90): the answer belongs to the head of a READY port's list and is handed to its owner, or discarded; then the
new head's deadline is the one watched (R93). A late answer may find a head that the bank has not accepted (R101): that entry leaves
all the same and is presented no more (log 30). -/
def execPortAnswer (r : Replica) (x : BankAnswer) (s : State) : Result :=
  match (s.port r).state, (s.port r).list with
  | .ready, head :: rest =>
    let s := s.setPort r { s.port r with list := rest }
    .next (((s.handOn r (asAnswer x head.op) head).settle).expireHead r)
  | .ready, [] | .aborting, _ | .off, _ => .next s

/-- PORT_TIMEOUT (R95): the deadline of a READY port's head op expires. Where the head's deadline is not reached, the head that
expired has left by its answer, and the expiry has no effect (R94). -/
def execPortTimeout (r : Replica) (s : State) : Result := .next (s.expireHead r)

/-! ## The abort handshake -/

/-- The end of an abort by ABORT_DONE (R99): READY when the replica votes or is the rebuild target, else OFF. -/
def State.endAbort (r : Replica) (s : State) : State :=
  s.setPort r
    { s.port r with
      state := if s.inUse.get r then .ready else .off
      abortLimit := none
      abort := false }

/-- The target's port is up (R99, R150): a copy engine in STARTING enters RUNNING and claims block 0. -/
def State.targetUp (r : Replica) (s : State) : State :=
  if s.copy.state = .starting ∧ s.rebuildTarget = some r then
    State.claim .copy s.copy.pointer { s with copy := { s.copy with state := .running, step := .claim } }
  else s

/-- ABORT_DONE (R99): a rising assertion ends the abort of an ABORTING port and is ignored on any other; a level already high is no
edge. -/
def execAbortDone (r : Replica) (s : State) : Result :=
  let p := s.port r
  if p.abortDone then .next s
  else
    let s := s.setPort r { p with abortDone := true }
    match p.state with
    | .aborting => .next ((s.endAbort r).targetUp r)
    | .ready | .off => .next s

/-- ABORT_DONE_DEASSERT (R99): the level falls. -/
def execAbortDoneDeassert (r : Replica) (s : State) : Result :=
  .next (s.setPort r { s.port r with abortDone := false })

/-- What the health monitor and the copy engine do at a dead port (R13, R100). -/
def State.declareDead (r : Replica) (s : State) : State :=
  match (s.account r).state with
  | .healthy | .suspect => s.retire r .portDead
  | .rebuilding => s.targetFailure r
  | .retired => s

/-- PORT_DEAD (R100): the abort limit of an ABORTING port expires. A limit that has ticks left has not expired: the abort it was set
for has ended by ABORT_DONE, and the expiry has no effect. -/
def execPortDead (r : Replica) (s : State) : Result :=
  match (s.port r).state, (s.port r).abortLimit with
  | .aborting, some 0 =>
    let s := s.setPort r { s.port r with state := .off, list := [], abortLimit := none, abort := false }
    .next (s.declareDead r).settle
  | .aborting, some (_ + 1) | .aborting, none | .ready, _ | .off, _ => .next s

end Sys2Proof.Machine
end

