-- ==== Sys2Proof/Machine/Timers.lean ====
section
/-! DEFINITION. The expiries of the decay, scrub interval and session idle timers (R10, R132, R192), and the tick: what step does
on an empty queue (log 2). -/

namespace Sys2Proof.Machine

open Sys2Proof

/-- DECAY_EXPIRY (R9, R10): each voting score above 0 loses 1, then SUSPECT accounts at or below CLEAR_AT enter HEALTHY, and the
timer restarts. A timer that has ticks left has not expired (log 3), nor does it run while RESET_N is asserted (log 20). -/
def execDecayExpiry (s : State) : Result :=
  if s.pins.resetAsserted || s.health.decayTimer != 0 then .next s
  else
    let s := { s with health := { s.health with decayTimer := s.health.decayInterval } }
    .next ((s.forEach State.decayScore).forEach State.decayClear)

/-- The walker pauses with a reason, and its timer restarts (R132). -/
def Scrub.pause (w : Scrub) (reason : PauseReason) : Scrub :=
  { w with state := .paused, reason := reason, timer := some w.interval }

/-- The walker chooses a block (R133): the lowest eligible at or above the pointer, else a wrap and the lowest eligible of all. -/
def Scrub.choose (w : Scrub) (t : Regions) (blocks : Nat) : Option Scrub :=
  match t.nextEligible blocks w.pointer with
  | some b => some { w with state := .claiming, reason := .none, timer := none, pointer := b }
  | none =>
    (t.nextEligible blocks 0).map fun b =>
      { w with state := .claiming, reason := .none, timer := none, pointer := b, passCount := wrap16 w.passCount }

/-- Whether another engine has the block before the walker's claim (R41): it holds it, or its claim is pending and no ISSUED request
holds that claim back (R40, log 6). -/
def State.aheadOfScrub (s : State) (block : Nat) : Bool :=
  s.heldByOther .scrub block || ((s.claims .repair block || s.claims .copy block) && !s.issuedFor block)

/-- The walker claims the block it has chosen (R134): refused at once, and the block skipped, when another engine has it or it is
under a draining hold; else pending until RT grants it (log 6). -/
def State.scrubClaim (s : State) : State :=
  let block := s.scrub.pointer
  if s.aheadOfScrub block || s.draining block then s.skipScrub else s.claim .scrub block

/-- The walker at an expiry of its interval (R132). -/
def State.scrubExpiry (s : State) : State :=
  if s.votingCount < 2 then { s with scrub := s.scrub.pause .fewReplicas }
  else if Config.queueHigh ≤ s.queue.length then { s with scrub := s.scrub.pause .queueHigh }
  else
    match s.scrub.choose s.regions s.spanBlocks with
    | none => { s with scrub := s.scrub.pause .noBlocks }
    | some w => State.scrubClaim { s with scrub := w }

/-- SCRUB_INTERVAL_EXPIRY (R131, R132): only in WAITING and PAUSED does the timer run. A timer that has ticks left has not expired
(log 3). -/
def execScrubIntervalExpiry (s : State) : Result :=
  match s.scrub.state, s.scrub.timer with
  | .waiting, some 0 | .paused, some 0 => .next s.scrubExpiry
  | .waiting, _ | .paused, _ | .off, _ | .claiming, _ | .reading, _ => .next s

/-- SESSION_IDLE_EXPIRY (R192, R193): an OPEN session whose idle timer has run out closes, and SESSION_EXPIRED is handed. Where the
acceptance of an aperture access was taken first, the timer has restarted and the expiry has no effect (R192). -/
def execSessionIdleExpiry (s : State) : Result :=
  match s.session.state, s.session.idleTimer with
  | .opened, some 0 => .next (s.closeSession.raise .sessionExpired)
  | .opened, some (_ + 1) | .opened, none | .closed, _ | .armed, _ => .next s

/-! ## The tick -/

/-- The expiries that are due: timers that have run out. -/
def State.due (s : State) : List Instr :=
  let timeouts := Replica.all.filter fun r =>
    match (s.port r).state, (s.port r).list with
    | .ready, head :: _ => head.deadline == 0
    | .ready, [] | .aborting, _ | .off, _ => false
  let dead := Replica.all.filter fun r => (s.port r).state == .aborting && (s.port r).abortLimit == some 0
  timeouts.map .portTimeout ++ dead.map .portDead
    ++ (if s.health.decayTimer = 0 then [.decayExpiry] else [])
    ++ (if s.scrub.timer = some 0 then [.scrubIntervalExpiry] else [])
    ++ (if s.session.idleTimer = some 0 then [.sessionIdleExpiry] else [])

/-- A list in a free order (log 4): each next element is a free choice among those left, drawn with the counter. -/
def freeOrder {α : Type} : Nat → Nat → List α → List α
  | 0, _, l => l
  | _ + 1, _, [] => []
  | _ + 1, _, [x] => [x]
  | n + 1, i, x :: y :: rest =>
    let k := Config.freeChoice i % (rest.length + 2)
    let l := x :: y :: rest
    l.getD k x :: freeOrder n (i + 1) (l.eraseIdx k)

/-- One tick boundary passes; the expiries it makes due wait in the queue, in a free order (log 2, log 4). While RESET_N is asserted
nothing counts (log 20). -/
def State.tick (s : State) : State :=
  if s.pins.resetAsserted then s
  else
    let s := s.advance 1
    { s with
      pending := s.pending ++ freeOrder s.due.length s.freeIndex s.due
      freeIndex := s.freeIndex + s.due.length }

end Sys2Proof.Machine
end

