-- ==== Sys2Proof/Machine/Reset.lean ====
section
/-! DEFINITION. Hardware reset and the release of RESET_N (R22, R47, R186, R187). -/

namespace Sys2Proof.Machine

open Sys2Proof

/-- HARDWARE_RESET: RESET_N is asserted, the straps are sampled, and every block takes its hardware-reset state (R22, R47, R49, R60,
R105, R127, R138, R160, R172, R187, R205). The levels of the banks' ABORT_DONE pins, the queue of commands and the model's counter
are no state of the part (log 10, log 11, log 25). -/
def execHardwareReset (straps : Straps) (s : State) : Result :=
  .next (State.afterReset straps (Tri.ofFn fun r => (s.port r).abortDone) s.freeIndex s.pending)

/-- RESET_N_RELEASE: ALERT_N takes the level its latched and enabled causes give, and the port begins to accept (R25, R186). -/
def execResetNRelease (s : State) : Result :=
  if s.pins.resetAsserted then
    .next (State.refreshLine { s with pins := { s.pins with resetAsserted := false } })
  else .next s

end Sys2Proof.Machine
end

