-- ==== Sys2Proof/Machine/Dispatch.lean ====
section
/-! DEFINITION. exec: one arm per command, each one direct call of the command's meaning. -/

namespace Sys2Proof.Machine

open Sys2Proof

def exec (i : Instr) (s : State) : Host.Outcome State Fault Refusal :=
  match i with
  | .hardwareReset straps => Sys2Proof.Machine.execHardwareReset straps s
  | .requestAccept request => Sys2Proof.Machine.execRequestAccept request s
  | .apertureWrite tag word length enables data => Sys2Proof.Machine.execApertureWrite tag word length enables data s
  | .stageWrite tag stage value => Sys2Proof.Machine.execStageWrite tag stage value s
  | .thresholds tag value => Sys2Proof.Machine.execThresholds tag value s
  | .timing tag value => Sys2Proof.Machine.execTiming tag value s
  | .housekeeping tag value => Sys2Proof.Machine.execHousekeeping tag value s
  | .alertAck tag value => Sys2Proof.Machine.execAlertAck tag value s
  | .alertEnable tag value => Sys2Proof.Machine.execAlertEnable tag value s
  | .recordRelease tag value => Sys2Proof.Machine.execRecordRelease tag value s
  | .retire tag value => Sys2Proof.Machine.execRetire tag value s
  | .rebuild tag value => Sys2Proof.Machine.execRebuild tag value s
  | .fill tag value => Sys2Proof.Machine.execFill tag value s
  | .copyAbort tag value => Sys2Proof.Machine.execCopyAbort tag value s
  | .regionSet tag value => Sys2Proof.Machine.execRegionSet tag value s
  | .regionClear tag value => Sys2Proof.Machine.execRegionClear tag value s
  | .scoreClear tag value => Sys2Proof.Machine.execScoreClear tag value s
  | .queueFlush tag value => Sys2Proof.Machine.execQueueFlush tag value s
  | .moveAperture tag value => Sys2Proof.Machine.execMoveAperture tag value s
  | .softReset tag value => Sys2Proof.Machine.execSoftReset tag value s
  | .close tag value => Sys2Proof.Machine.execClose tag value s
  | .sessionIdleExpiry => Sys2Proof.Machine.execSessionIdleExpiry s
  | .responseTaken => Sys2Proof.Machine.execResponseTaken s
  | .upstreamGrant => Sys2Proof.Machine.execUpstreamGrant s
  | .repairReadGrant => Sys2Proof.Machine.execRepairReadGrant s
  | .repairWriteGrant => Sys2Proof.Machine.execRepairWriteGrant s
  | .repairVerifyGrant => Sys2Proof.Machine.execRepairVerifyGrant s
  | .scrubReadGrant => Sys2Proof.Machine.execScrubReadGrant s
  | .fillWriteGrant => Sys2Proof.Machine.execFillWriteGrant s
  | .rebuildReadGrant => Sys2Proof.Machine.execRebuildReadGrant s
  | .rebuildWriteGrant => Sys2Proof.Machine.execRebuildWriteGrant s
  | .bankOpAccept port => Sys2Proof.Machine.execBankOpAccept port s
  | .portAnswer port answer => Sys2Proof.Machine.execPortAnswer port answer s
  | .blockClaimGrant engine => Sys2Proof.Machine.execBlockClaimGrant engine s
  | .portTimeout port => Sys2Proof.Machine.execPortTimeout port s
  | .abortDone port => Sys2Proof.Machine.execAbortDone port s
  | .portDead port => Sys2Proof.Machine.execPortDead port s
  | .decayExpiry => Sys2Proof.Machine.execDecayExpiry s
  | .scrubIntervalExpiry => Sys2Proof.Machine.execScrubIntervalExpiry s
  | .repairTake => Sys2Proof.Machine.execRepairTake s
  | .resetNRelease => Sys2Proof.Machine.execResetNRelease s
  | .abortDoneDeassert port => Sys2Proof.Machine.execAbortDoneDeassert port s

end Sys2Proof.Machine
end

