-- ==== Sys2Proof/Safety.lean ====
section
/-! DEFINITION. The vocabulary of the statements: which parts of State a step keeps, when an aperture access is ready to be made,
what an answer leaves in the request table, and the invariants every step keeps. -/

namespace Sys2Proof.Machine

open Sys2Proof

/-! ## Parts of the state -/

/-- The fields of State. -/
inductive Part where
  | pins | health | rt | regions | ports | queue | repair | scrub | copy | records | alerts | session | freeIndex | pending
  deriving DecidableEq, Repr

/-- One field has the same value in both states. -/
def Part.same (p : Part) (s t : State) : Prop :=
  match p with
  | .pins => t.pins = s.pins
  | .health => t.health = s.health
  | .rt => t.rt = s.rt
  | .regions => t.regions = s.regions
  | .ports => t.ports = s.ports
  | .queue => t.queue = s.queue
  | .repair => t.repair = s.repair
  | .scrub => t.scrub = s.scrub
  | .copy => t.copy = s.copy
  | .records => t.records = s.records
  | .alerts => t.alerts = s.alerts
  | .session => t.session = s.session
  | .freeIndex => t.freeIndex = s.freeIndex
  | .pending => t.pending = s.pending

/-- Every field that is not listed has the same value in both states: the frame of a step. -/
def Keeps (changed : List Part) (s t : State) : Prop := ∀ p, p ∉ changed → p.same s t

/-! ## Commands that are a write to one aperture word -/

/-- The tag, the word and the value of a row that is a write to one aperture word. -/
def wordRow : Instr → Option (Tag × Nat × Word)
  | .stageWrite tag stage v => some (tag, 16 + stage.val, v)
  | .thresholds tag v => some (tag, 20, v)
  | .timing tag v => some (tag, 21, v)
  | .housekeeping tag v => some (tag, 22, v)
  | .alertAck tag v => some (tag, 12, v)
  | .alertEnable tag v => some (tag, 13, v)
  | .recordRelease tag v => some (tag, 9, v)
  | .retire tag v => some (tag, 40, v)
  | .rebuild tag v => some (tag, 41, v)
  | .fill tag v => some (tag, 42, v)
  | .copyAbort tag v => some (tag, 43, v)
  | .regionSet tag v => some (tag, 44, v)
  | .regionClear tag v => some (tag, 45, v)
  | .scoreClear tag v => some (tag, 46, v)
  | .queueFlush tag v => some (tag, 47, v)
  | .moveAperture tag v => some (tag, 48, v)
  | .softReset tag v => some (tag, 49, v)
  | .close tag v => some (tag, 62, v)
  | _ => none

/-! ## Acceptance -/

/-- The aperture base is a multiple of 512 and lies within the span with its 511 following bytes (R189). -/
def Session.basePlaced (c : Session) (spanBytes : Nat) : Bool := c.base % 512 == 0 && decide (c.base + 512 ≤ spanBytes)

/-- A request with this tag passes check 1 of R26 into a FREE slot. -/
def State.acceptsTag (s : State) (tag : Tag) : Bool := s.accepting && !s.tagInUse tag

/-- An access to the control aperture with this tag is routed APERTURE: a slot is FREE, the tag is not in use, the session is
OPEN, and the base stands as R189 says. -/
def State.apertureReady (s : State) (tag : Tag) : Bool :=
  s.acceptsTag tag && s.session.state == .opened && s.session.basePlaced s.spanBytes

/-- Check 2 of R26. -/
def Request.malformed (r : Request) : Bool :=
  r.length.val == 0 || decide (8 < r.length.val) || decide (8 < r.firstWord + r.length.val)

/-- Check 4 of R26. -/
def State.inAperture (s : State) (r : Request) : Bool := s.session.state == .opened && s.session.covers r.block

/-- The reason by which checks 2, 3 and 5 of R26 refuse a request; none when they all pass or check 4 takes it first. -/
def State.refusal (s : State) (r : Request) : Option Reason :=
  if Request.malformed r then some .malformed
  else if s.spanBlocks ≤ r.block then some .outOfSpan
  else if s.inAperture r then none
  else if s.regions.filling r.block then some .filling
  else none

/-- What every answer given at acceptance leaves in the request table: slot `i` is ANSWERED with this response, nothing else of the
table has changed, and the response is presented when the channel is free and no other waits (R28, R30, R43). -/
structure AnsweredAt (i : SlotId) (response : Response) (s t : State) : Prop where
  slot : ∃ sl, t.slot i = some sl ∧ sl.state = .answered ∧ sl.tag = response.tag ∧ sl.response = response
  others : ∀ j, j ≠ i → t.slot j = s.slot j
  holding : t.rt.holding = s.rt.holding
  acceptOrder : t.rt.acceptOrder = s.rt.acceptOrder
  locks : t.rt.locks = s.rt.locks
  waits : s.rt.channel.isSome = true → t.rt.channel = s.rt.channel ∧ t.rt.answerOrder = s.rt.answerOrder ++ [i]
  presented : s.rt.channel = none → s.rt.answerOrder = [] →
    t.rt.channel = some ⟨.slot i, response⟩ ∧ t.rt.answerOrder = []

/-- The response of a taken write by its outcome (R30, R197). -/
def writeResponse (tag : Tag) (o : ResultOutcome) : Response :=
  if o = .done then { tag := tag, status := .clean, reason := none, failedMask := none, words := [] }
  else { tag := tag, status := .refused, reason := some .apertureInvalid, failedMask := none, words := [] }

/-- The response of a refused request (R44). -/
def refusedResponse (tag : Tag) (reason : Reason) : Response :=
  { tag := tag, status := .refused, reason := some reason, failedMask := none, words := [] }

/-- The session after a taken write, from the session `c` as the word's owner leaves it: RESULT names the word and the outcome
(R197), and the idle timer restarts while the session is OPEN (R192). -/
def Session.afterWrite (c : Session) (k : Nat) (o : ResultOutcome) : Session :=
  { c with
    resultWord := k
    resultOutcome := o
    idleTimer := if c.state = .opened then c.restarted else c.idleTimer }

/-- A taken write of word k with this outcome, of which `u` is the state the word's owner leaves: the answer is in the slot that
was FREE, the session is `u`'s after the write, and nothing else differs from `u`. -/
def WriteTaken (tag : Tag) (k : Nat) (o : ResultOutcome) (s u t : State) : Prop :=
  ∃ i, s.freeSlot = some i ∧ AnsweredAt i (writeResponse tag o) u t ∧ t.session = u.session.afterWrite k o
    ∧ Keeps [.rt, .session] u t

/-- A taken write whose owner refuses it: nothing has changed but the answer, RESULT and the idle timer (R197, R201). -/
def WriteRefused (tag : Tag) (k : Nat) (o : ResultOutcome) (s t : State) : Prop := o ≠ .done ∧ WriteTaken tag k o s s t

/-- A cause is latched and enabled (R186). -/
def Alerts.calls (a : Alerts) : Prop := ∃ c : Cause, (a.causes.get c).latch = true ∧ a.enable.get c = true

/-- ALERT_N is asserted exactly while RESET_N is released and some cause is latched and enabled (R186). -/
def State.LineWf (s : State) : Prop := s.alerts.asserted = true ↔ s.pins.resetAsserted = false ∧ s.alerts.calls

/-- The alert unit after changes to its causes: the causes not listed as they were, the enable mask kept, and the line still by
R186. -/
structure AlertsMoved (changed : List Cause) (s t : State) : Prop where
  others : ∀ c, c ∉ changed → t.alerts.causes.get c = s.alerts.causes.get c
  enable : t.alerts.enable = s.alerts.enable
  line : s.LineWf → t.LineWf

/-- Which causes are of level type (section 10.1, R182). -/
def State.isLevel (s : State) : Cause → Bool
  | .queueFull | .degraded => true
  | .health r => (s.account r).alertMode == .level
  | .retire | .dataLoss | .recordsLost | .copyDone | .sessionExpired => false

/-! ## Grants -/

/-- The replica of a FAST read's first phase (R68): it votes, no voting replica has a lower score, and none before it has the
same. -/
def State.isFirstChoice (s : State) (r : Replica) : Prop :=
  (s.account r).votes = true ∧ ∀ q, (s.account q).votes = true →
    (s.account r).score ≤ (s.account q).score ∧ ((s.account r).score = (s.account q).score → r.number ≤ q.number)

/-- A grant of this slot enters the replica as VOTER (R65, R68, R70). -/
def State.entersVoter (s : State) (sl : Slot) (r : Replica) : Prop :=
  (s.account r).votes = true ∧
    match sl.kind, sl.fastPhase with
    | .write, _ | .read, .none => True
    | .read, .first => s.isFirstChoice r
    | .read, .fallback => ∀ q x, sl.firstAnswer = some (q, x) → q ≠ r

/-- A grant of this slot enters the replica as TARGET (R66): a WRITE, and the target of a REBUILD in RUNNING, whose pointer stands
above the block. -/
def State.entersTarget (s : State) (sl : Slot) (r : Replica) : Prop :=
  sl.kind = .write ∧ (s.account r).votes = false ∧ s.copy.kind = .rebuild r ∧ s.copy.state = .running
    ∧ sl.block < s.copy.pointer

/-- The answer a replica that a grant names has at the grant (R102). -/
def State.answerAtGrant (s : State) (r : Replica) : OpAnswer := if (s.port r).state = .ready then .pending else .lost

/-- The entry a grant issues (R88, R92). -/
def State.entry (s : State) (op : Op) : IssueEntry :=
  { op := op, ownerGone := false, deadline := s.ports.replyTimeout, accepted := false }

/-- A grant's op stands at the tail of the list of each named replica whose port is READY, and nothing else of the ports has changed
(R88, R102). -/
def Issued (op : Op) (named : Replica → Prop) (s u : State) : Prop :=
  u.ports.replyTimeout = s.ports.replyTimeout ∧
    ∀ r,
      (named r ∧ (s.port r).state = .ready → u.port r = { s.port r with list := (s.port r).list ++ [s.entry op] })
        ∧ (¬(named r ∧ (s.port r).state = .ready) → u.port r = s.port r)

/-- An engine's grant (R102, R104): its op is issued, each named replica has its answer at the grant, the run count is 0, and the
active repair holds the rebuild target given (R119, R125). -/
def EngineIssued (e : Engine) (op : Op) (named : ReplicaSet) (target : Option Replica) (s u : State) : Prop :=
  Issued op (fun r => named.get r = true) s u ∧ u.ports.runCount = 0
    ∧ (∃ answers, u.engineOp e = .out answers
        ∧ ∀ r, answers.get r = if named.get r then some (s.answerAtGrant r) else none)
    ∧ (∀ e', e' ≠ e → u.engineOp e' = s.engineOp e')
    ∧ Keeps [.ports, .repair, .scrub, .copy] s u
    ∧ u.repair = { s.repair with op := u.repair.op, target := target }
    ∧ u.scrub = { s.scrub with op := u.scrub.op } ∧ u.copy = { s.copy with op := u.copy.op }

/-! ## Claims and locks -/

/-- A memory request for the block is ISSUED (R39). -/
def State.IssuedFor (s : State) (block : Nat) : Prop :=
  ∃ i sl, s.slot i = some sl ∧ sl.route = .memory ∧ sl.block = block ∧ sl.state = .issued

/-- An engine other than `e` holds the block (R39). -/
def State.OtherHolds (s : State) (e : Engine) (block : Nat) : Prop := ∃ e', e' ≠ e ∧ (s.lock e').held = some block

/-- The block is under a draining hold (R42). -/
def State.Drains (s : State) (block : Nat) : Prop := ∃ e, (s.lock e).draining = some block

/-- Nothing of R39 holds back a claim of the engine on the block. -/
def State.ClaimFree (s : State) (e : Engine) (block : Nat) : Prop :=
  ¬s.IssuedFor block ∧ ¬s.OtherHolds e block ∧ ¬s.Drains block

/-- An engine of higher rank has a claim pending on the block (R40). -/
def State.Outranked (s : State) (e : Engine) (block : Nat) : Prop :=
  (e ≠ .repair ∧ (s.lock .repair).claim = some block) ∨ (e = .scrub ∧ (s.lock .copy).claim = some block)

/-- No engine other than `e` has a claim pending on the block. -/
def State.NoOtherClaim (s : State) (e : Engine) (block : Nat) : Prop := ∀ e', e' ≠ e → (s.lock e').claim ≠ some block

/-- Some port's list holds an op of the engine for the block (R42). -/
def State.OpsRemain (s : State) (e : Engine) (block : Nat) : Prop :=
  ∃ r, ∃ x ∈ (s.port r).list, x.op.owner = .engine e ∧ x.op.block = block

/-- The table keeps its requests (R48): every slot keeps its record but for READY against WAITING and the answers of its voter list,
of which exactly the PENDING ones that are lost become LOST (R97). -/
def RequestsKept (lost : SlotId → Replica → Prop) (s t : State) : Prop :=
  ∀ i, (s.slot i = none → t.slot i = none) ∧ ∀ sl, s.slot i = some sl → ∃ sl', t.slot i = some sl'
    ∧ sl' = { sl with state := sl'.state, voters := sl'.voters }
    ∧ (sl.state = .issued ∨ sl.state = .answered → sl'.state = sl.state)
    ∧ (sl.state = .ready ∨ sl.state = .waiting → sl'.state = .ready ∨ sl'.state = .waiting)
    ∧ (∀ r role, lost i r → sl.voters.get r = some ⟨role, .pending⟩ → sl'.voters.get r = some ⟨role, .lost⟩)
    ∧ (∀ r, (¬lost i r ∨ ∀ role, sl.voters.get r ≠ some ⟨role, .pending⟩) → sl'.voters.get r = sl.voters.get r)

/-! ## Words of an op -/

/-- The value a replica contributes to the vote on word `k` of an engine's read (R85): it answered OK and votes now. -/
def State.valueOf (s : State) (answers : Tri (Option OpAnswer)) (k : Nat) (r : Replica) : Option Word :=
  match answers.get r with
  | some (.ok words) => if (s.account r).votes then words[k]? else none
  | _ => none

/-- The vote on word `k` of an engine's read (R63). -/
def State.wordVote (s : State) (answers : Tri (Option OpAnswer)) (k : Nat) : WordOutcome :=
  voteWord ⟨s.valueOf answers k .a, s.valueOf answers k .b, s.valueOf answers k .c⟩

/-- A replica contributes to an engine's read (R85). -/
def State.Contributes (s : State) (answers : Tri (Option OpAnswer)) (r : Replica) : Prop :=
  (s.account r).votes = true ∧ ∃ words, answers.get r = some (.ok words)

/-- A replica's op was answered ERROR or handed as LOST. -/
def AnsweredBadly (answers : Tri (Option OpAnswer)) (r : Replica) : Prop :=
  answers.get r = some .error ∨ answers.get r = some .lost

/-- The word index `k` is the first whose vote meets `p`, among `n`. -/
def FirstWord (n : Nat) (word : Nat → WordOutcome) (p : WordOutcome → Prop) (k : Nat) : Prop :=
  k < n ∧ p (word k) ∧ ∀ j, j < k → ¬p (word j)

/-- The op of an engine that names these replicas; with none its answers are in at once (R117, R121). -/
def stageOf (named : ReplicaSet) : OpStage :=
  if named.a = false ∧ named.b = false ∧ named.c = false then .out ⟨none, none, none⟩ else .ready named

/-! ## Aperture words by their fields -/

/-- A word made of fields (low, width, value): each position of a field shows the value's bit, a value standing modulo its width,
and every position of no field reads 0 (R196, R204). -/
def Lays (w : Word) (fields : List (Nat × Nat × Nat)) : Prop :=
  ∀ i, i < 64 →
    w.getLsbD i = fields.any fun f => decide (f.1 ≤ i) && decide (i < f.1 + f.2.1) && f.2.2.testBit (i - f.1)

/-! ## Invariants -/

/-- The kinds of record that carry a word index (R163). -/
def RecordKind.hasWord : RecordKind → Bool
  | .miscompare | .divergent | .rebuildSkipped => true
  | .readError | .writeMissed | .timeout | .repairFailed | .repairAbandoned => false

/-- The fault record list as R162, R163 and R165 say it stands. -/
structure Records.Wf (l : Records) : Prop where
  count : l.list.length ≤ 16
  lost : l.lost ≤ 255
  next : l.nextSeq < 65536
  distinct : l.list.Pairwise fun x y => ¬(x.block = y.block ∧ x.kind = y.kind)
  consecutive : ∀ n (h : n < l.list.length), l.list[n].sequence = (l.nextSeq + 65536 - l.list.length + n) % 65536
  each : ∀ x ∈ l.list,
    x.mask.isEmpty = false ∧ 1 ≤ x.repeats ∧ x.repeats ≤ 255 ∧ x.word.isSome = x.kind.hasWord

/-- The repair queue as R107, R108 and R111 say it stands. -/
structure State.QueueWf (s : State) : Prop where
  depth : s.queue.length ≤ 32
  distinct : s.queue.Pairwise fun x y => x.block ≠ y.block
  each : ∀ e ∈ s.queue, e.mask.isEmpty = false ∧ e.attempts ≤ 2
  voting : ∀ e ∈ s.queue, ∀ r, e.mask.get r = true → (s.account r).votes = true

/-- The alert unit as R179, R180 and R186 say it stands: the line follows latches and enables, the two conditions that the queue
and the voting set hand are those of their owners, and a true one is latched. -/
structure State.AlertsWf (s : State) : Prop where
  line : s.LineWf
  queueFull : s.alerts.causes.queueFull.condition = true ↔ s.queue.length = 32
  degraded : s.alerts.causes.degraded.condition = true ↔ s.votingCount < 3
  queueFullLatched : s.alerts.causes.queueFull.condition = true → s.alerts.causes.queueFull.latch = true
  degradedLatched : s.alerts.causes.degraded.condition = true → s.alerts.causes.degraded.latch = true

/-- The relations between settings, scores and states (R2, R7, R9 and the two relations of section 1.3). -/
structure Health.Wf (h : Health) : Prop where
  settings : h.thresholds.clearAt < h.thresholds.suspectAt ∧ h.thresholds.suspectAt < h.thresholds.retireAt
    ∧ h.thresholds.retireAt ≤ 1023
  interval : 1 ≤ h.decayInterval ∧ h.decayInterval ≤ 65535
  score : ∀ r, (h.accounts.get r).score ≤ 1023
  healthy : ∀ r, (h.accounts.get r).state = .healthy → (h.accounts.get r).score < h.thresholds.suspectAt
  suspect : ∀ r, (h.accounts.get r).state = .suspect → h.thresholds.clearAt < (h.accounts.get r).score

/-- The control session as R189, R190, R192 and R205 say it stands. -/
structure State.SessionWf (s : State) : Prop where
  base : s.session.base % 512 = 0 ∧ s.session.base + 512 ≤ s.spanBytes
  pending : ∀ b, s.session.pendingBase = some b → b % 512 = 0 ∧ b + 512 ≤ s.spanBytes
  timer : s.session.idleTimer.isSome = true → s.session.state = .opened
  closed : s.pins.straps.knockEn = false → s.session.state = .closed

/-- The region table as R51, R55 and R58 say it stands. -/
structure State.RegionsWf (s : State) : Prop where
  bounds : ∀ n : RegionId, s.regions.descriptors[n].enabled = true →
    s.regions.descriptors[n].first ≤ s.regions.descriptors[n].last ∧ s.regions.descriptors[n].last < s.spanBlocks
  apart : ∀ m n : RegionId, m ≠ n → s.regions.descriptors[m].enabled = true → s.regions.descriptors[n].enabled = true →
    s.regions.descriptors[m].last < s.regions.descriptors[n].first
      ∨ s.regions.descriptors[n].last < s.regions.descriptors[m].first
  marked : ∀ n : RegionId, s.regions.fillMark = some n → s.regions.descriptors[n].enabled = true

/-- A replica is in REBUILDING exactly while the copy engine holds a REBUILD of it, in STARTING or RUNNING (R16). -/
def State.RebuildWf (s : State) : Prop := ∀ r, (s.account r).state = .rebuilding ↔ s.rebuildTarget = some r

/-- The replica ports, the arbiter and the walker as R86, R92, R104, R129 and R130 say they stand: only a READY port has ops in its
list, exactly an ABORTING port has a limit, and the settings and counts keep their ranges. -/
structure State.PortsWf (s : State) : Prop where
  empty : ∀ r, (s.port r).state ≠ .ready → (s.port r).list = []
  limit : ∀ r, (s.port r).abortLimit.isSome = true ↔ (s.port r).state = .aborting
  replyTimeout : 1 ≤ s.ports.replyTimeout ∧ s.ports.replyTimeout ≤ 63
  runCount : s.ports.runCount ≤ 16
  interval : 1 ≤ s.scrub.interval ∧ s.scrub.interval ≤ 65535
  passCount : s.scrub.passCount < 65536

/-- The block lock set and the engines as R39, R41, R103, R114, R129 and R140 say they stand. -/
structure State.EnginesWf (s : State) : Prop where
  apart : ∀ e e' b, e ≠ e' → (s.lock e).held = some b → (s.lock e').held ≠ some b
  one : ∀ e, (s.lock e).held.isSome = true → (s.lock e).claim = none
  repairClaim : (s.lock .repair).claim.isSome = true → s.repair.phase = .claim
  repairHeld : (s.lock .repair).held.isSome = true →
    s.repair.phase = .read ∨ s.repair.phase = .write ∨ s.repair.phase = .verify
  repairOp : s.repair.op ≠ .none → (s.lock .repair).held.isSome = true
  copyClaim : (s.lock .copy).claim.isSome = true → s.copy.state = .running ∧ s.copy.step = .claim
  copyHeld : (s.lock .copy).held.isSome = true →
    s.copy.state = .running ∧ (s.copy.step = .read ∨ s.copy.step = .write)
  copyOp : s.copy.op ≠ .none → (s.lock .copy).held.isSome = true
  scrubClaim : (s.lock .scrub).claim.isSome = true → s.scrub.state = .claiming
  scrubHeld : (s.lock .scrub).held.isSome = true → s.scrub.state = .reading
  scrubOp : s.scrub.op ≠ .none → (s.lock .scrub).held.isSome = true
  scrubBlock : ∀ b, (s.lock .scrub).claim = some b →
    (s.lock .repair).held ≠ some b ∧ (s.lock .copy).held ≠ some b ∧ s.draining b = false

/-- What locks, draining holds and the engines' entries in the issue lists have to do with each other (R39, R42, R91, R103): an engine's
claim or lock is on the block it works at, no held block is under a draining hold, a live entry is for the block its engine holds and
its answer is awaited, an entry marked owner gone is for the block of its engine's draining hold, an engine never has entries of both
kinds nor two in one list, and a draining hold lasts only while an op of its engine for its block remains. -/
structure State.HoldsWf (s : State) : Prop where
  undrained : ∀ e b, (s.lock e).held = some b → ¬s.Drains b
  repairBlock : ∀ b, (s.lock .repair).held = some b ∨ (s.lock .repair).claim = some b → b = s.repair.block
  copyBlock : ∀ b, (s.lock .copy).held = some b ∨ (s.lock .copy).claim = some b → b = s.copy.pointer
  scrubBlock : ∀ b, (s.lock .scrub).held = some b ∨ (s.lock .scrub).claim = some b → b = s.scrub.pointer
  live : ∀ e r, ∀ x ∈ (s.port r).list, x.op.owner = .engine e → x.ownerGone = false →
    (s.lock e).held = some x.op.block ∧ ∃ answers, s.engineOp e = .out answers ∧ answers.get r = some .pending
  gone : ∀ e r, ∀ x ∈ (s.port r).list, x.op.owner = .engine e → x.ownerGone = true →
    (s.lock e).draining = some x.op.block
  alike : ∀ e r q, ∀ x ∈ (s.port r).list, ∀ y ∈ (s.port q).list, x.op.owner = .engine e → y.op.owner = .engine e →
    x.ownerGone = y.ownerGone
  single : ∀ e r, (s.port r).list.Pairwise fun x y => ¬(x.op.owner = .engine e ∧ y.op.owner = .engine e)
  drains : ∀ e b, (s.lock e).draining = some b → s.OpsRemain e b

end Sys2Proof.Machine
end

