-- ==== Sys2Proof/Certificates/Slice0/Obligations.lean ====
section
/-! DEFINITION. The statements for the provers, in the order of the chapters they come from: the step and the resets, the request
table, the aperture, the grants, the ports, the timers, the decisions, and the invariants every step keeps. -/

open Sys2Proof Sys2Proof.Machine

/-! ## The step and the resets -/

/-- The command at the front of the queue is executed on the state with the queue's rest. -/
def Obligations.StepTakesFrontCommand : Prop :=
  ∀ (s : State) (c : Instr) (rest : List Instr),
    step (s.withPending (c :: rest)) = exec c (s.withPending rest)

/-- A tick (the model's choice, log 2 and log 26): on an empty queue one tick boundary passes; every running timer counts it, and
exactly the expiries then due wait in the queue. While RESET_N is asserted nothing happens (log 20). -/
def Obligations.EmptyQueueStepPassesOneTick : Prop :=
  ∀ s : State, s.pending = [] →
    (s.pins.resetAsserted = true → step s = .next s)
    ∧ (s.pins.resetAsserted = false → ∃ t : State,
        step s = .next t
        ∧ t.health = { s.health with decayTimer := s.health.decayTimer - 1 }
        ∧ t.scrub = { s.scrub with timer := s.scrub.timer.map (· - 1) }
        ∧ t.session = { s.session with idleTimer := s.session.idleTimer.map (· - 1) }
        ∧ t.ports.replyTimeout = s.ports.replyTimeout ∧ t.ports.runCount = s.ports.runCount
        ∧ (∀ r, t.port r =
            { s.port r with
              list := (s.port r).list.map fun x => { x with deadline := x.deadline - 1 }
              abortLimit := (s.port r).abortLimit.map (· - 1) })
        ∧ t.pending.Nodup
        ∧ (∀ c, c ∈ t.pending ↔
            ((∃ r x rest, c = .portTimeout r ∧ (t.port r).state = .ready ∧ (t.port r).list = x :: rest ∧ x.deadline = 0)
              ∨ (∃ r, c = .portDead r ∧ (t.port r).state = .aborting ∧ (t.port r).abortLimit = some 0)
              ∨ (c = .decayExpiry ∧ t.health.decayTimer = 0)
              ∨ (c = .scrubIntervalExpiry ∧ t.scrub.timer = some 0)
              ∨ (c = .sessionIdleExpiry ∧ t.session.idleTimer = some 0)))
        ∧ Keeps [.health, .scrub, .session, .ports, .pending, .freeIndex] s t)

/-- Every command whose term is a request of R24, or needs to be none, is executed to a next state; a WRITE whose lists of enables
or data have another length than the request is no request and is refused by name (log 17). -/
def Obligations.WellFormedCommandsComplete : Prop :=
  (∀ (c : Instr) (s : State), c.wellFormed = true → ∃ t, exec c s = .next t)
  ∧ (∀ (r : Request) (s : State), r.wellFormed = false →
      exec (.requestAccept r) s = .refused (.illFormedRequest "REQUEST_ACCEPT"))
  ∧ (∀ (tag : Tag) (word : Fin 64) (length : Fin 16) (enables : List Enables) (data : List Word) (s : State),
      (Access.write enables data).wellFormed length = false →
      exec (.apertureWrite tag word length enables data) s = .refused (.illFormedRequest "APERTURE_WRITE"))

/-- A command whose event cannot occur in the state changes nothing (log 1): a request while the port does not accept (R25), a
response taken with none presented, a grant the arbiter does not make, an event at a port that has none, an expiry of a timer
that does not run or has ticks left (log 3). -/
def Obligations.ImpossibleEventsChangeNothing : Prop :=
  ∀ s : State,
    (s.accepting = false →
      (∀ r : Request, r.wellFormed = true → exec (.requestAccept r) s = .next s)
      ∧ (∀ tag word length enables data, (Access.write enables data).wellFormed length = true →
          exec (.apertureWrite tag word length enables data) s = .next s)
      ∧ (∀ c tag k v, wordRow c = some (tag, k, v) → exec c s = .next s))
    ∧ (s.rt.channel = none → exec .responseTaken s = .next s)
    ∧ ((∀ i, s.arbiter ≠ some (.upstream i)) → exec .upstreamGrant s = .next s)
    ∧ (s.arbiter ≠ some (.engine .repair) ∨ s.repair.phase ≠ .read → exec .repairReadGrant s = .next s)
    ∧ (s.arbiter ≠ some (.engine .repair) ∨ s.repair.phase ≠ .write → exec .repairWriteGrant s = .next s)
    ∧ (s.arbiter ≠ some (.engine .repair) ∨ s.repair.phase ≠ .verify → exec .repairVerifyGrant s = .next s)
    ∧ (s.arbiter ≠ some (.engine .copy) →
        exec .fillWriteGrant s = .next s ∧ exec .rebuildReadGrant s = .next s ∧ exec .rebuildWriteGrant s = .next s)
    ∧ (s.arbiter ≠ some (.engine .scrub) → exec .scrubReadGrant s = .next s)
    ∧ (∀ r, ((s.port r).state ≠ .ready ∨ (s.port r).list = []) →
        exec (.portTimeout r) s = .next s ∧ ∀ x, exec (.portAnswer r x) s = .next s)
    ∧ (∀ r head rest, (s.port r).list = head :: rest → head.deadline ≠ 0 → exec (.portTimeout r) s = .next s)
    ∧ (∀ r, (s.port r).state ≠ .ready → exec (.bankOpAccept r) s = .next s)
    ∧ (∀ r, ((s.port r).state ≠ .aborting ∨ (s.port r).abortLimit ≠ some 0) → exec (.portDead r) s = .next s)
    ∧ (∀ e, (s.lock e).claim = none → exec (.blockClaimGrant e) s = .next s)
    ∧ ((s.repair.phase ≠ .idle ∨ s.queue = []) → exec .repairTake s = .next s)
    ∧ ((s.scrub.state ≠ .waiting ∧ s.scrub.state ≠ .paused) ∨ s.scrub.timer ≠ some 0 → exec .scrubIntervalExpiry s = .next s)
    ∧ (s.session.state ≠ .opened ∨ s.session.idleTimer ≠ some 0 → exec .sessionIdleExpiry s = .next s)
    ∧ (s.pins.resetAsserted = true ∨ s.health.decayTimer ≠ 0 → exec .decayExpiry s = .next s)
    ∧ (s.pins.resetAsserted = false → exec .resetNRelease s = .next s)

/-- What an event does last (log 5): every decision it has made ready is taken, and none is ready then. With none ready nothing more
happens; one ready decision is taken whole; of several one is taken first, by a free choice (log 4); then those that are ready
after it follow in the same way. -/
def Obligations.DecisionsFollowTheirEvent : Prop :=
  ∀ s : State,
    s.settle.ready = []
    ∧ (s.ready = [] → s.settle = s)
    ∧ (∀ d, s.ready = [d] → s.settle = (s.decideFor d).settle)
    ∧ (2 ≤ s.ready.length → ∃ d ∈ s.ready,
        s.settle = (State.decideFor d { s with freeIndex := s.freeIndex + 1 }).settle)

/-- Hardware reset brings every block to the state its reset rule gives, for any straps, whatever the state before; the level of
RESET_N, the banks' ABORT_DONE pins, the queue of commands and the model's counter are no state of the part (log 10, log 11, log 25).
At the release of RESET_N, ALERT_N takes the level that the latched and enabled causes give, and everything else stays. -/
def Obligations.HardwareResetRestoresEveryBlock : Prop :=
  (∀ (straps : Straps) (s : State), ∃ t : State,
    exec (.hardwareReset straps) s = .next t
    ∧ t.pins = { straps := straps, resetAsserted := true }
    ∧ (∀ r, t.account r =
        if straps.present.get r then { state := .healthy, score := 0, reason := .none, alertMode := .level }
        else { state := .retired, score := 0, reason := .absent, alertMode := .level })
    ∧ t.health.thresholds = { suspectAt := 64, clearAt := 16, retireAt := 512, autoRetire := false }
    ∧ t.health.decayInterval = 4096 ∧ t.health.decayTimer = 4096
    ∧ (∀ i, t.slot i = none) ∧ t.rt.holding = none ∧ t.rt.acceptOrder = [] ∧ t.rt.answerOrder = []
    ∧ t.rt.channel = none ∧ (∀ e, t.lock e = { held := none, claim := none, draining := none })
    ∧ (∀ n : RegionId, t.regions.descriptors[n] = { enabled := false, first := 0, last := 0, mode := .vote, scrub := false })
    ∧ t.regions.defaultScrub = false ∧ t.regions.fillMark = none
    ∧ (∀ r, (t.port r).state = (if straps.present.get r then .ready else .off) ∧ (t.port r).list = []
        ∧ (t.port r).abortLimit = none ∧ (t.port r).abort = false ∧ (t.port r).abortDone = (s.port r).abortDone)
    ∧ t.ports.replyTimeout = 4 ∧ t.ports.runCount = 0
    ∧ t.queue = [] ∧ t.repair.phase = .idle ∧ t.repair.op = .none
    ∧ t.scrub.state = .off ∧ t.scrub.reason = .none ∧ t.scrub.pointer = 0 ∧ t.scrub.passCount = 0
    ∧ t.scrub.timer = none ∧ t.scrub.on = false ∧ t.scrub.interval = 64 ∧ t.scrub.op = .none
    ∧ t.copy.kind = .none ∧ t.copy.state = .idle ∧ t.copy.step = .none ∧ t.copy.pattern = 0 ∧ t.copy.pointer = 0
    ∧ t.copy.endBlock = 0 ∧ t.copy.skipCount = 0 ∧ t.copy.values = List.replicate 8 0 ∧ t.copy.outcome = .none
    ∧ t.copy.op = .none
    ∧ t.records = { list := [], nextSeq := 0, lost := 0 }
    ∧ (∀ c, (t.alerts.causes.get c).latch = decide (c = .degraded ∧ straps.present.count < 3)
        ∧ (t.alerts.causes.get c).condition = (t.alerts.causes.get c).latch ∧ (t.alerts.causes.get c).acked = false)
    ∧ (∀ c, t.alerts.enable.get c = decide (c = .dataLoss ∨ c = .degraded)) ∧ t.alerts.asserted = false
    ∧ t.session.state = .closed ∧ t.session.base = t.spanBytes - 512 ∧ t.session.pendingBase = none
    ∧ t.session.idleTimer = none ∧ t.session.sessionIdle = 8192 ∧ t.session.resultWord = 0
    ∧ t.session.resultOutcome = .none ∧ (∀ k : Fin 4, t.session.stages[k] = 0)
    ∧ t.freeIndex = s.freeIndex ∧ t.pending = s.pending)
  ∧ (∀ s : State, s.pins.resetAsserted = true → ∃ t : State,
    exec .resetNRelease s = .next t
    ∧ t.pins = { s.pins with resetAsserted := false }
    ∧ t.alerts.causes = s.alerts.causes ∧ t.alerts.enable = s.alerts.enable
    ∧ (t.alerts.asserted = true ↔ s.alerts.calls)
    ∧ Keeps [.pins, .alerts] s t)

/-- State.reset (log 9: a 16 MiB span, every replica present, KNOCK_EN high, RESET_N released) holds what the reset rules give and
meets every invariant stated below. -/
def Obligations.ResetStateMeetsInvariants : Prop :=
  (∀ r, (State.reset.account r).state = .healthy ∧ (State.reset.account r).score = 0 ∧ (State.reset.port r).state = .ready)
  ∧ State.reset.votingCount = 3 ∧ State.reset.spanBlocks = 262144 ∧ State.reset.session.base = 0xFFFE00
  ∧ State.reset.accepting = true ∧ State.reset.alerts.asserted = false ∧ State.reset.pending = []
  ∧ State.reset.records.Wf ∧ State.reset.QueueWf ∧ State.reset.AlertsWf ∧ State.reset.health.Wf
  ∧ State.reset.SessionWf ∧ State.reset.RegionsWf ∧ State.reset.RebuildWf ∧ State.reset.PortsWf ∧ State.reset.EnginesWf
  ∧ State.reset.HoldsWf

/-! ## The request table -/

/-- The refusals of R26. A request whose tag a slot that is not FREE carries goes to the refusal holding place and changes nothing else
of the table (R27, R43). A request refused as MALFORMED, OUT_OF_SPAN or FILLING, by the first check that matches, takes a FREE slot
that is ANSWERED at once, and enters no other list of the table (R28). Either is shown to the session as a refused write (R190). -/
def Obligations.RefusedRequestsAreAnswered : Prop :=
  (∀ (s : State) (r : Request), r.wellFormed = true → s.accepting = true → s.tagInUse r.tag = true → ∃ t : State,
     exec (.requestAccept r) s = .next t
     ∧ t.rt.slots = s.rt.slots ∧ t.rt.acceptOrder = s.rt.acceptOrder ∧ t.rt.answerOrder = s.rt.answerOrder
     ∧ t.rt.locks = s.rt.locks ∧ t.rt.holding = some r.tag
     ∧ (s.rt.channel = none → t.rt.channel = some ⟨.holding, refusedResponse r.tag .tagInUse⟩)
     ∧ (s.rt.channel.isSome = true → t.rt.channel = s.rt.channel)
     ∧ (r.access.kind = .read → t.session = s.session)
     ∧ (r.access.kind = .write → t.session = s.session.judge s.pins.straps.knockEn r true)
     ∧ Keeps [.rt, .session] s t)
  ∧ (∀ (s : State) (r : Request) (reason : Reason) (i : SlotId),
     r.wellFormed = true → s.acceptsTag r.tag = true → s.freeSlot = some i → s.refusal r = some reason → ∃ t : State,
       exec (.requestAccept r) s = .next t
       ∧ AnsweredAt i (refusedResponse r.tag reason) s t
       ∧ (r.access.kind = .read → t.session = s.session)
       ∧ (r.access.kind = .write → t.session = s.session.judge s.pins.straps.knockEn r true)
       ∧ Keeps [.rt, .session] s t)

/-- A memory request takes a FREE slot with the fields of R32 and the read mode its block has now (R31), is the newest of the
acceptance order list (R34), and is WAITING exactly when an older request for the block is in that list, an engine holds the block,
or it is under a draining hold (R35). -/
def Obligations.MemoryRequestTakesSlot : Prop :=
  ∀ (s : State) (r : Request) (i : SlotId),
    r.wellFormed = true → s.acceptsTag r.tag = true → s.freeSlot = some i → s.refusal r = none →
    s.inAperture r = false → ∃ (t : State) (sl : Slot),
      exec (.requestAccept r) s = .next t
      ∧ t.slot i = some sl ∧ (∀ j, j ≠ i → t.slot j = s.slot j)
      ∧ sl.tag = r.tag ∧ sl.kind = r.access.kind ∧ sl.block = r.block ∧ sl.firstWord = r.firstWord
      ∧ sl.length = r.length.val ∧ sl.enables = r.access.enables ∧ sl.data = r.access.data ∧ sl.route = .memory
      ∧ sl.policy = some (s.regions.lookup r.block).mode
      ∧ sl.fastPhase = (if r.access.kind = .read ∧ (s.regions.lookup r.block).mode = .fast then .first else .none)
      ∧ (sl.state = .waiting ↔
          (∃ j ∈ s.rt.acceptOrder, ∃ old, s.slot j = some old ∧ old.block = r.block)
            ∨ (∃ e, (s.lock e).held = some r.block) ∨ ∃ e, (s.lock e).draining = some r.block)
      ∧ (sl.state = .waiting ∨ sl.state = .ready)
      ∧ t.rt.acceptOrder = s.rt.acceptOrder ++ [i] ∧ t.rt.answerOrder = s.rt.answerOrder
      ∧ t.rt.channel = s.rt.channel ∧ t.rt.holding = s.rt.holding ∧ t.rt.locks = s.rt.locks
      ∧ (r.access.kind = .read → t.session = s.session)
      ∧ (r.access.kind = .write → t.session = s.session.judge s.pins.straps.knockEn r false)
      ∧ Keeps [.rt, .session] s t

/-- An access routed APERTURE (R30, R195, R196): word k is the request's word address less base/8. A read of length 1 of a word of
read access is answered CLEAN with the word's value, and an access that fails a check of R195 is refused with APERTURE_INVALID;
either changes nothing else but the idle timer, which restarts (R192). A write that passes is what the row of its word does.
APERTURE_WRITE: a write of one whole word to a word of write access does what the row of that word does; any other length up to 8,
an enable clear, or a word that takes no write, is refused with APERTURE_INVALID. -/
def Obligations.ApertureAccessAnswered : Prop :=
  (∀ (s : State) (r : Request) (i : SlotId) (k : Nat),
     r.wellFormed = true → s.apertureReady r.tag = true → s.freeSlot = some i → Request.malformed r = false → k < 64 →
     r.address.toNat = s.session.base / 8 + k →
       (takesAccess r k = true → r.access = .read → ∃ t : State,
         exec (.requestAccept r) s = .next t
         ∧ AnsweredAt i { tag := r.tag, status := .clean, reason := none, failedMask := some 0, words := [s.readWord k] } s t
         ∧ t.session = { s.session with idleTimer := s.session.restarted } ∧ Keeps [.rt, .session] s t)
       ∧ (takesAccess r k = false → ∃ t : State,
         exec (.requestAccept r) s = .next t
         ∧ AnsweredAt i (refusedResponse r.tag .apertureInvalid) s t
         ∧ t.session = { s.session with idleTimer := s.session.restarted } ∧ Keeps [.rt, .session] s t)
       ∧ (takesAccess r k = true ↔
           r.length.val = 1 ∧ (r.access = .read ∧ (wordAccess k = .readOnly ∨ wordAccess k = .readWrite)
             ∨ ∃ v, r.access = .write [Enables.all] [v] ∧ (wordAccess k = .writeOnly ∨ wordAccess k = .readWrite)))
       ∧ (∀ c v, r.access = .write [Enables.all] [v] → r.length.val = 1 → wordRow c = some (r.tag, k, v) →
           exec (.requestAccept r) s = exec c s))
  ∧ (∀ (s : State) (tag : Tag) (word : Fin 64) (length : Fin 16) (enables : List Enables) (data : List Word) (i : SlotId),
     (Access.write enables data).wellFormed length = true → s.apertureReady tag = true → s.freeSlot = some i →
     1 ≤ length.val → word.val % 8 + length.val ≤ 8 →
       (∀ c v, wordRow c = some (tag, word.val, v) → length.val = 1 → enables = [Enables.all] → data = [v] →
         exec (.apertureWrite tag word length enables data) s = exec c s
         ∧ ∃ t, exec (.apertureWrite tag word length enables data) s = .next t)
       ∧ (length.val ≠ 1 ∨ enables ≠ [Enables.all] ∨ wordAccess word.val = .unused ∨ wordAccess word.val = .readOnly →
           ∃ t : State,
             exec (.apertureWrite tag word length enables data) s = .next t
             ∧ AnsweredAt i (refusedResponse tag .apertureInvalid) s t
             ∧ t.session = { s.session with idleTimer := s.session.restarted } ∧ Keeps [.rt, .session] s t))

/-- The knock (R190): what each write does to the session state, by the state it meets; with KNOCK_EN low no write is judged. The
session closes (R192, R193). CLOSE: the write is answered CLEAN and the session closes, a pending base becoming the base.
SESSION_IDLE_EXPIRY: an OPEN session whose timer has run out closes in the same way, and SESSION_EXPIRED is latched. -/
def Obligations.SessionFollowsKnockAndCloses : Prop :=
  (∀ (c : Session) (r : Request) (refused : Bool),
     let atKnock (v : Word) : Prop :=
       refused = false ∧ r.length.val = 1 ∧ r.address.toNat = c.base / 8 + 63 ∧ r.access = .write [Enables.all] [v]
     c.judge false r refused = c
     ∧ (c.state = .opened → c.judge true r refused = c)
     ∧ (c.state = .closed →
         (atKnock 0xFFFFFFFFFFFFFFFF#64 → c.judge true r refused = { c with state := .armed })
         ∧ (¬atKnock 0xFFFFFFFFFFFFFFFF#64 → c.judge true r refused = c))
     ∧ (c.state = .armed →
         (atKnock 0 → c.judge true r refused =
           { c with state := .opened, idleTimer := if c.sessionIdle = 0 then none else some c.sessionIdle })
         ∧ (atKnock 0xFFFFFFFFFFFFFFFF#64 → c.judge true r refused = c)
         ∧ (¬atKnock 0 → ¬atKnock 0xFFFFFFFFFFFFFFFF#64 → c.judge true r refused = { c with state := .closed })))
  ∧ (∀ (s : State) (tag : Tag) (v : Word), s.apertureReady tag = true → ∃ u t : State,
    exec (.close tag v) s = .next t ∧ WriteTaken tag 62 .done s u t
    ∧ u = { s with
        session :=
          { s.session with
            state := .closed, idleTimer := none, base := s.session.pendingBase.getD s.session.base, pendingBase := none } })
  ∧ (∀ s : State, s.session.state = .opened → s.session.idleTimer = some 0 → ∃ t : State,
    exec .sessionIdleExpiry s = .next t
    ∧ t.session =
        { s.session with
          state := .closed, idleTimer := none, base := s.session.pendingBase.getD s.session.base, pendingBase := none }
    ∧ t.alerts.causes.sessionExpired = { s.alerts.causes.sessionExpired with latch := true }
    ∧ AlertsMoved [.sessionExpired] s t
    ∧ Keeps [.session, .alerts] s t)

/-- RESPONSE_TAKEN (R45, R43): the slot of the taken response is FREE, or the holding place is empty; then the holding place's
response is presented, else the head of the answer order list. -/
def Obligations.ResponseTakenFreesItsPlace : Prop :=
  ∀ (s : State) (p : Presented), s.rt.channel = some p → ∃ t : State,
    exec .responseTaken s = .next t
    ∧ (∀ i, p.source = .slot i →
        t.slot i = none ∧ (∀ j, j ≠ i → t.slot j = s.slot j) ∧ t.rt.holding = s.rt.holding)
    ∧ (p.source = .holding → t.rt.slots = s.rt.slots ∧ t.rt.holding = none)
    ∧ (∀ tag, t.rt.holding = some tag →
        t.rt.channel = some ⟨.holding, refusedResponse tag .tagInUse⟩ ∧ t.rt.answerOrder = s.rt.answerOrder)
    ∧ (t.rt.holding = none → s.rt.answerOrder = [] → t.rt.channel = none ∧ t.rt.answerOrder = [])
    ∧ (∀ j rest sl, t.rt.holding = none → s.rt.answerOrder = j :: rest → t.slot j = some sl →
        t.rt.channel = some ⟨.slot j, sl.response⟩ ∧ t.rt.answerOrder = rest)
    ∧ t.rt.acceptOrder = s.rt.acceptOrder ∧ t.rt.locks = s.rt.locks
    ∧ Keeps [.rt] s t

/-- UPSTREAM_GRANT (R36, R65, R66, R68, R70, R102, R104): the slot the arbiter chooses is ISSUED with one entry for each replica of
its voter list, PENDING where the port is READY and LOST where it is not; each READY port named has the op at its tail; the run
count counts the grant; then the decisions made ready follow. -/
def Obligations.UpstreamGrantIssuesSlot : Prop :=
  ∀ (s : State) (i : SlotId) (sl : Slot), s.arbiter = some (.upstream i) → s.slot i = some sl → ∃ (u : State) (sl' : Slot),
    exec .upstreamGrant s = .next u.settle
    ∧ u.slot i = some sl' ∧ (∀ j, j ≠ i → u.slot j = s.slot j)
    ∧ sl' = { sl with state := .issued, awaiting := false, targets := sl'.targets, voters := sl'.voters }
    ∧ (∀ r, s.entersVoter sl r → sl'.voters.get r = some ⟨.voter, s.answerAtGrant r⟩)
    ∧ (∀ r, s.entersTarget sl r → sl'.voters.get r = some ⟨.target, s.answerAtGrant r⟩)
    ∧ (∀ r, ¬s.entersVoter sl r → ¬s.entersTarget sl r → sl'.voters.get r = none)
    ∧ (∀ r, sl'.targets.get r = true ↔ (sl'.voters.get r).isSome = true ∧ (s.port r).state = .ready)
    ∧ Issued
        { owner := .slot i, kind := sl.kind, block := sl.block, firstWord := sl.firstWord, length := sl.length,
          enables := sl.enables, data := sl.data,
          origin := if sl.kind = .read then .upstreamRead else .upstreamWrite }
        (fun r => (sl'.voters.get r).isSome = true) s u
    ∧ u.ports.runCount = (if s.topEngine.isSome then min (s.ports.runCount + 1) 16 else 0)
    ∧ u.rt.acceptOrder = s.rt.acceptOrder ∧ u.rt.answerOrder = s.rt.answerOrder ∧ u.rt.channel = s.rt.channel
    ∧ u.rt.holding = s.rt.holding ∧ u.rt.locks = s.rt.locks
    ∧ Keeps [.rt, .ports] s u

/-- The arbiter (R103, R104): an engine is a candidate while it holds its lock, has an op ready, and has no entry in any list; the
upstream side comes first but when the run count is 16 and an engine is a candidate; among the engines repair, copy, scrub. The slot
offered is the oldest of the acceptance order list that is READY or awaits its fallback grant (R36); a READY one on whose block an
engine's claim is pending is not offered, since RT grants that claim first (R40; the model's reading, log 6). -/
def Obligations.ArbiterFollowsItsOrder : Prop :=
  ∀ s : State,
    (∀ e, s.engineCandidate e = true ↔
      (s.lock e).held.isSome = true ∧ (∃ named, s.engineOp e = .ready named)
        ∧ ∀ r, ∀ x ∈ (s.port r).list, x.op.owner ≠ .engine e)
    ∧ (∀ i, s.offered = some i → s.topEngine = none ∨ s.ports.runCount < 16 → s.arbiter = some (.upstream i))
    ∧ (∀ e, s.topEngine = some e → s.offered = none ∨ 16 ≤ s.ports.runCount → s.arbiter = some (.engine e))
    ∧ (s.offered = none → s.topEngine = none → s.arbiter = none)
    ∧ (s.engineCandidate .repair = true → s.topEngine = some .repair)
    ∧ (s.engineCandidate .repair = false → s.engineCandidate .copy = true → s.topEngine = some .copy)
    ∧ (s.engineCandidate .repair = false → s.engineCandidate .copy = false → s.engineCandidate .scrub = true →
        s.topEngine = some .scrub)
    ∧ ((∀ e, s.engineCandidate e = false) → s.topEngine = none)
    ∧ (let offerable (i : SlotId) : Prop := ∃ sl, s.slot i = some sl
          ∧ ((sl.state = .ready ∧ ∀ e, (s.lock e).claim ≠ some sl.block)
            ∨ (sl.state = .issued ∧ sl.fastPhase = .fallback ∧ sl.awaiting = true))
       (∀ i, s.offered = some i ↔
          ∃ pre post, s.rt.acceptOrder = pre ++ i :: post ∧ offerable i ∧ ∀ j ∈ pre, ¬offerable j)
        ∧ (s.offered = none ↔ ∀ i ∈ s.rt.acceptOrder, ¬offerable i))

/-! ## Staging, settings and alert words -/

/-- STAGE_WRITE (R198): the staging word takes the whole value, with DONE; nothing else changes. -/
def Obligations.StageWriteReplacesStagingWord : Prop :=
  ∀ (s : State) (tag : Tag) (k : Fin 4) (v : Word), s.apertureReady tag = true → ∃ u t : State,
    exec (.stageWrite tag k v) s = .next t
    ∧ WriteTaken tag (16 + k.val) .done s u t
    ∧ u = { s with session := { s.session with stages := s.session.stages.set k.val v k.isLt } }

/-- The settings words (R199): a write is taken with all its fields together, or refused whole.
THRESHOLDS (R7, R8): four valid values are taken and every account is re-tested at once.
TIMING (R52, R92, R130): REPLY_TIMEOUT, SCRUB_INTERVAL, SCRUB_ON and DEFAULT_SCRUB are taken, the walker acts by its state, and the
deadlines already set stay; a zero REPLY_TIMEOUT or SCRUB_INTERVAL is refused.
HOUSEKEEPING (R9, R21, R183, R200): DECAY_INTERVAL, SESSION_IDLE and the three modes are taken; the decay timer restarts only when the
interval changes, and a changed mode converts its HEALTH cause by the table of R183; a zero interval or a mode of 3 is refused. -/
def Obligations.SettingsWritesTakeAllFieldsOrNone : Prop :=
  (∀ (s : State) (tag : Tag) (v : Word), s.apertureReady tag = true →
     let suspectAt := v.toNat % 1024
     let clearAt := v.toNat / 2 ^ 10 % 1024
     let retireAt := v.toNat / 2 ^ 20 % 1024
     (clearAt < suspectAt ∧ suspectAt < retireAt → ∃ u t : State,
       exec (.thresholds tag v) s = .next t ∧ WriteTaken tag 20 .done s u t
       ∧ u.health.thresholds =
           { suspectAt := suspectAt, clearAt := clearAt, retireAt := retireAt, autoRetire := v.getLsbD 30 }
       ∧ u.health.decayInterval = s.health.decayInterval ∧ u.health.decayTimer = s.health.decayTimer
       ∧ (∀ r,
           ((s.account r).state = .healthy → suspectAt ≤ (s.account r).score →
             u.account r = { s.account r with state := .suspect }
             ∧ u.alerts.causes.get (.health r) =
                 (s.alerts.causes.get (.health r)).suspectEntry (s.account r).alertMode)
           ∧ ((s.account r).state = .suspect → (s.account r).score ≤ clearAt →
             u.account r = { s.account r with state := .healthy }
             ∧ u.alerts.causes.get (.health r) =
                 (s.alerts.causes.get (.health r)).suspectLeave (s.account r).alertMode)
           ∧ (¬((s.account r).state = .healthy ∧ suspectAt ≤ (s.account r).score) →
             ¬((s.account r).state = .suspect ∧ (s.account r).score ≤ clearAt) →
             u.account r = s.account r ∧ u.alerts.causes.get (.health r) = s.alerts.causes.get (.health r)))
       ∧ AlertsMoved [.health .a, .health .b, .health .c] s u
       ∧ Keeps [.health, .alerts] s u)
     ∧ (¬(clearAt < suspectAt ∧ suspectAt < retireAt) → ∃ t : State,
         exec (.thresholds tag v) s = .next t ∧ WriteRefused tag 20 .refusedArgument s t))
  ∧ (∀ (s : State) (tag : Tag) (v : Word), s.apertureReady tag = true →
     let reply := v.toNat % 64
     let interval := v.toNat / 2 ^ 6 % 65536
     let on := v.getLsbD 22
     (reply ≠ 0 ∧ interval ≠ 0 → ∃ u t : State,
       exec (.timing tag v) s = .next t ∧ WriteTaken tag 21 .done s u t
       ∧ u.ports = { s.ports with replyTimeout := reply }
       ∧ u.regions = { s.regions with defaultScrub := v.getLsbD 23 }
       ∧ u.scrub.on = on ∧ u.scrub.interval = interval ∧ u.scrub.pointer = s.scrub.pointer
       ∧ u.scrub.passCount = s.scrub.passCount ∧ u.scrub.op = s.scrub.op
       ∧ (s.scrub.state = .off → on = true → u.scrub.state = .waiting ∧ u.scrub.timer = some interval)
       ∧ (s.scrub.state = .off → on = false → u.scrub.state = .off ∧ u.scrub.timer = s.scrub.timer)
       ∧ (s.scrub.state = .waiting ∨ s.scrub.state = .paused →
           (on = false → u.scrub.state = .off ∧ u.scrub.timer = none ∧ u.scrub.reason = .none)
           ∧ (on = true → u.scrub.state = s.scrub.state ∧ u.scrub.reason = s.scrub.reason
               ∧ u.scrub.timer = if s.scrub.interval = interval then s.scrub.timer else some interval))
       ∧ (s.scrub.state = .claiming ∨ s.scrub.state = .reading →
           u.scrub.state = s.scrub.state ∧ u.scrub.timer = s.scrub.timer ∧ u.scrub.reason = s.scrub.reason)
       ∧ Keeps [.ports, .regions, .scrub] s u)
     ∧ (reply = 0 ∨ interval = 0 → ∃ t : State,
         exec (.timing tag v) s = .next t ∧ WriteRefused tag 21 .refusedArgument s t))
  ∧ (∀ (s : State) (tag : Tag) (v : Word), s.apertureReady tag = true →
     let decay := v.toNat % 65536
     let idle := v.toNat / 2 ^ 16 % 65536
     let mode (r : Replica) : Nat := v.toNat / 2 ^ (32 + 2 * r.number) % 4
     (decay ≠ 0 ∧ (∀ r, mode r ≠ 3) → ∃ u t : State,
       exec (.housekeeping tag v) s = .next t ∧ WriteTaken tag 22 .done s u t
       ∧ u.health.thresholds = s.health.thresholds ∧ u.health.decayInterval = decay
       ∧ u.health.decayTimer = (if s.health.decayInterval = decay then s.health.decayTimer else decay)
       ∧ u.session = { s.session with sessionIdle := idle }
       ∧ (∀ r, (u.account r).alertMode.code = mode r
           ∧ { u.account r with alertMode := (s.account r).alertMode } = s.account r)
       ∧ (∀ r, let c := s.alerts.causes.get (.health r)
           let c' := u.alerts.causes.get (.health r)
           c'.condition = c.condition
           ∧ ((s.account r).alertMode = .level → mode r = 0 → c' = c)
           ∧ ((s.account r).alertMode = .level → mode r ≠ 0 → c'.latch = (c.latch && !c.acked) ∧ c'.acked = false)
           ∧ ((s.account r).alertMode ≠ .level → mode r = 0 → c'.latch = (c.latch || c.condition) ∧ c'.acked = false)
           ∧ ((s.account r).alertMode ≠ .level → mode r ≠ 0 → c' = c))
       ∧ AlertsMoved [.health .a, .health .b, .health .c] s u
       ∧ Keeps [.health, .session, .alerts] s u)
     ∧ (decay = 0 ∨ (∃ r, mode r = 3) → ∃ t : State,
         exec (.housekeeping tag v) s = .next t ∧ WriteRefused tag 22 .refusedArgument s t))

/-- ALERT_ACK (R184): every cause whose position is set takes an acknowledge, an edge cause by R178 and a level cause by R180.
ALERT_ENABLE (R185): the mask takes the written value and the line follows at once. A position that names no cause refuses either
write whole. -/
def Obligations.AlertWordWritesAct : Prop :=
  (∀ (s : State) (tag : Tag) (v : Word), s.apertureReady tag = true →
    (v.toNat < 1024 → ∃ u t : State,
      exec (.alertAck tag v) s = .next t ∧ WriteTaken tag 12 .done s u t
      ∧ (∀ c, let x := s.alerts.causes.get c
          let y := u.alerts.causes.get c
          (v.getLsbD c.position = false → y = x)
          ∧ (v.getLsbD c.position = true → s.isLevel c = false → y = { x with latch := false })
          ∧ (v.getLsbD c.position = true → s.isLevel c = true → x.condition = false → y = { x with latch := false })
          ∧ (v.getLsbD c.position = true → s.isLevel c = true → x.condition = true → y = { x with acked := x.latch }))
      ∧ u.alerts.enable = s.alerts.enable ∧ (s.LineWf → u.LineWf)
      ∧ Keeps [.alerts] s u)
    ∧ (1024 ≤ v.toNat → ∃ t : State,
        exec (.alertAck tag v) s = .next t ∧ WriteRefused tag 12 .refusedArgument s t))
  ∧ (∀ (s : State) (tag : Tag) (v : Word), s.apertureReady tag = true →
    (v.toNat < 1024 → ∃ u t : State,
      exec (.alertEnable tag v) s = .next t ∧ WriteTaken tag 13 .done s u t
      ∧ (∀ c, u.alerts.enable.get c = v.getLsbD c.position)
      ∧ u.alerts.causes = s.alerts.causes ∧ u.LineWf
      ∧ Keeps [.alerts] s u)
    ∧ (1024 ≤ v.toNat → ∃ t : State,
        exec (.alertEnable tag v) s = .next t ∧ WriteRefused tag 13 .refusedArgument s t))

/-- RECORD_RELEASE (R170): refused on an empty list, STALE unless the written sequence and repeat count are the head's, else the
head leaves the list and nothing else changes. -/
def Obligations.RecordReleaseTakesMatchingHead : Prop :=
  ∀ (s : State) (tag : Tag) (v : Word), s.apertureReady tag = true →
    (s.records.list = [] → ∃ t : State,
      exec (.recordRelease tag v) s = .next t ∧ WriteRefused tag 9 .refusedState s t)
    ∧ (∀ head rest, s.records.list = head :: rest →
        (v.toNat % 65536 ≠ head.sequence ∨ v.toNat / 65536 % 256 ≠ head.repeats → ∃ t : State,
          exec (.recordRelease tag v) s = .next t ∧ WriteRefused tag 9 .stale s t)
        ∧ (v.toNat % 65536 = head.sequence → v.toNat / 65536 % 256 = head.repeats → ∃ u t : State,
          exec (.recordRelease tag v) s = .next t ∧ WriteTaken tag 9 .done s u t
          ∧ u = { s with records := { s.records with list := rest } }))

/-! ## Command words -/

/-- RETIRE (R12): the replica is retired with reason COMMAND and all the consequences of R14, but a value that names no replica, a
replica that does not vote, and the one voting replica, are refused. -/
def Obligations.RetireCommandAnswers : Prop :=
  ∀ (s : State) (tag : Tag) (v : Word), s.apertureReady tag = true →
    (3 ≤ v.toNat → ∃ t : State,
      exec (.retire tag v) s = .next t.settle ∧ WriteRefused tag 40 .refusedArgument s t)
    ∧ (∀ r : Replica, v.toNat = r.number →
        ((s.account r).votes = false ∨ s.votingCount = 1 → ∃ t : State,
          exec (.retire tag v) s = .next t.settle ∧ WriteRefused tag 40 .refusedState s t)
        ∧ ((s.account r).votes = true → s.votingCount ≠ 1 → ∃ u t : State,
          exec (.retire tag v) s = .next t.settle ∧ WriteTaken tag 40 .done s u t
          ∧ u = s.retireCore r .command
          ∧ u.account r = { s.account r with state := .retired, reason := .command }))

/-- REBUILD (R16, R98, R149): its five checks in order; a rebuild that starts sets the copy context, the target's account and its
port as the rules say, and nothing else. A port that is OFF has an empty list (the invariant PortsInvariantKept). -/
def Obligations.RebuildCommandAnswers : Prop :=
  ∀ (s : State) (tag : Tag) (v : Word), s.apertureReady tag = true →
    (3 ≤ v.toNat → ∃ t : State,
      exec (.rebuild tag v) s = .next t ∧ WriteRefused tag 41 .refusedArgument s t)
    ∧ (∀ r : Replica, v.toNat = r.number →
        (s.copy.state ≠ .idle → ∃ t : State,
          exec (.rebuild tag v) s = .next t ∧ WriteRefused tag 41 .busy s t)
        ∧ (s.copy.state = .idle → ((s.account r).state ≠ .retired ∨ s.votingCount = 0) → ∃ t : State,
          exec (.rebuild tag v) s = .next t ∧ WriteRefused tag 41 .refusedState s t)
        ∧ (s.copy.state = .idle → (s.account r).state = .retired → s.votingCount ≠ 0 →
            ((s.port r).state = .off → (s.port r).list = []) → ∃ u t : State,
          exec (.rebuild tag v) s = .next t ∧ WriteTaken tag 41 .done s u t
          ∧ u.copy =
              { s.copy with
                kind := .rebuild r, state := .starting, step := .none, pointer := 0, endBlock := s.spanBlocks - 1,
                skipCount := 0, op := .none }
          ∧ u.account r = { s.account r with state := .rebuilding, score := 0, reason := .none }
          ∧ (∀ q, q ≠ r → u.account q = s.account q ∧ u.port q = s.port q)
          ∧ ((s.port r).state = .off →
              u.port r = { s.port r with state := .aborting, abortLimit := some 16, abort := true })
          ∧ ((s.port r).state ≠ .off → u.port r = s.port r)
          ∧ u.health.thresholds = s.health.thresholds ∧ u.health.decayTimer = s.health.decayTimer
          ∧ u.health.decayInterval = s.health.decayInterval ∧ u.ports.runCount = s.ports.runCount
          ∧ u.ports.replyTimeout = s.ports.replyTimeout
          ∧ Keeps [.copy, .health, .ports] s u))

/-- FILL (R143, R58, R112): its five checks in order; a fill that starts sets the copy context from STAGE0 and the descriptor, sets
the fill mark, takes the region's blocks out of the repair queue, and claims the first block. What a claim does when the walker's
claim on that block is pending is FreedBlocksGoToClaimsThenRequests'. -/
def Obligations.FillCommandAnswers : Prop :=
  ∀ (s : State) (tag : Tag) (v' : Word), s.apertureReady tag = true →
    (8 ≤ v'.toNat → ∃ t : State,
      exec (.fill tag v') s = .next t ∧ WriteRefused tag 42 .refusedArgument s t)
    ∧ (∀ n : RegionId, v'.toNat = n.val →
        (s.copy.state ≠ .idle → ∃ t : State,
          exec (.fill tag v') s = .next t ∧ WriteRefused tag 42 .busy s t)
        ∧ (s.copy.state = .idle → (s.regions.descriptors[n].enabled = false ∨ s.votingCount = 0) → ∃ t : State,
          exec (.fill tag v') s = .next t ∧ WriteRefused tag 42 .refusedState s t)
        ∧ (s.copy.state = .idle → s.regions.descriptors[n].enabled = true → s.votingCount ≠ 0 → ∃ v u t : State,
          exec (.fill tag v') s = .next t ∧ WriteTaken tag 42 .done s u t
          ∧ v.copy =
              { s.copy with
                kind := .fill n, state := .running, step := .claim, pattern := s.session.stages[0],
                pointer := s.regions.descriptors[n].first, endBlock := s.regions.descriptors[n].last, skipCount := 0,
                op := .none }
          ∧ v.regions = { s.regions with fillMark := some n }
          ∧ v.queue = s.queue.filter (fun e =>
              !(decide (s.regions.descriptors[n].first ≤ e.block) && decide (e.block ≤ s.regions.descriptors[n].last)))
          ∧ v.alerts.causes.queueFull = (s.alerts.causes.queueFull).setCondition (v.queue.length == 32)
          ∧ AlertsMoved [.queueFull] s v
          ∧ Keeps [.copy, .regions, .queue, .alerts] s v
          ∧ u = v.claim .copy s.regions.descriptors[n].first
          ∧ u.lock .copy = { s.lock .copy with claim := some s.regions.descriptors[n].first }
          ∧ u.lock .repair = s.lock .repair
          ∧ ((s.lock .scrub).claim ≠ some s.regions.descriptors[n].first →
              u.lock .scrub = s.lock .scrub ∧ u.rt = { s.rt with locks := u.rt.locks } ∧ Keeps [.rt] v u)
          ∧ Keeps [.rt, .scrub] v u))

/-- REGION_SET (R55, R56): its checks in order; a command that is taken enables the descriptor with the staged bounds, read mode and
scrub flag, and changes no other descriptor. REGION_CLEAR (R57): the descriptor is disabled and keeps its other fields. The region
being filled is BUSY to both. -/
def Obligations.RegionCommandsAnswer : Prop :=
  (∀ (s : State) (tag : Tag) (v : Word), s.apertureReady tag = true →
    let first := (s.session.stages[0]).toNat
    let last := (s.session.stages[1]).toNat
    let mode := (s.session.stages[2]).toNat % 4
    let scrub := (s.session.stages[2]).toNat / 4 % 4
    (8 ≤ v.toNat → ∃ t : State,
      exec (.regionSet tag v) s = .next t ∧ WriteRefused tag 44 .refusedArgument s t)
    ∧ (∀ n : RegionId, v.toNat = n.val →
        let shares := ∃ m : RegionId, m ≠ n ∧ s.regions.descriptors[m].enabled = true
          ∧ first ≤ s.regions.descriptors[m].last ∧ s.regions.descriptors[m].first ≤ last
        (s.regions.fillMark = some n → ∃ t : State,
          exec (.regionSet tag v) s = .next t ∧ WriteRefused tag 44 .busy s t)
        ∧ (s.regions.fillMark ≠ some n → (2 ≤ mode ∨ 2 ≤ scrub ∨ last < first ∨ s.spanBlocks ≤ last ∨ shares) → ∃ t : State,
          exec (.regionSet tag v) s = .next t ∧ WriteRefused tag 44 .refusedArgument s t)
        ∧ (s.regions.fillMark ≠ some n → mode < 2 → scrub < 2 → first ≤ last → last < s.spanBlocks → ¬shares →
          ∃ u t : State,
            exec (.regionSet tag v) s = .next t ∧ WriteTaken tag 44 .done s u t
            ∧ u.regions.descriptors[n] =
                { enabled := true, first := first, last := last, mode := if mode = 0 then .vote else .fast,
                  scrub := decide (scrub = 1) }
            ∧ (∀ m : RegionId, m ≠ n → u.regions.descriptors[m] = s.regions.descriptors[m])
            ∧ u.regions.defaultScrub = s.regions.defaultScrub ∧ u.regions.fillMark = s.regions.fillMark
            ∧ Keeps [.regions] s u)))
  ∧ (∀ (s : State) (tag : Tag) (v : Word), s.apertureReady tag = true →
    (8 ≤ v.toNat → ∃ t : State,
      exec (.regionClear tag v) s = .next t ∧ WriteRefused tag 45 .refusedArgument s t)
    ∧ (∀ n : RegionId, v.toNat = n.val →
        (s.regions.fillMark = some n → ∃ t : State,
          exec (.regionClear tag v) s = .next t ∧ WriteRefused tag 45 .busy s t)
        ∧ (s.regions.fillMark ≠ some n → ∃ u t : State,
          exec (.regionClear tag v) s = .next t ∧ WriteTaken tag 45 .done s u t
          ∧ u.regions.descriptors[n] = { s.regions.descriptors[n] with enabled := false }
          ∧ (∀ m : RegionId, m ≠ n → u.regions.descriptors[m] = s.regions.descriptors[m])
          ∧ u.regions.defaultScrub = s.regions.defaultScrub ∧ u.regions.fillMark = s.regions.fillMark
          ∧ Keeps [.regions] s u)))

/-- SCORE_CLEAR (R15): the score of a voting replica becomes 0 and a SUSPECT one enters HEALTHY with its leave event; a value that
names no replica and a replica that is RETIRED or REBUILDING are refused. -/
def Obligations.ScoreClearCommandAnswers : Prop :=
  ∀ (s : State) (tag : Tag) (v : Word), s.apertureReady tag = true →
    (3 ≤ v.toNat → ∃ t : State,
      exec (.scoreClear tag v) s = .next t ∧ WriteRefused tag 46 .refusedArgument s t)
    ∧ (∀ r : Replica, v.toNat = r.number →
        ((s.account r).votes = false → ∃ t : State,
          exec (.scoreClear tag v) s = .next t ∧ WriteRefused tag 46 .refusedState s t)
        ∧ ((s.account r).votes = true → ∃ u t : State,
          exec (.scoreClear tag v) s = .next t ∧ WriteTaken tag 46 .done s u t
          ∧ u.account r = { s.account r with score := 0, state := .healthy }
          ∧ (∀ q, q ≠ r → u.account q = s.account q)
          ∧ ((s.account r).state = .healthy → u.alerts = s.alerts)
          ∧ ((s.account r).state = .suspect → u.alerts.causes.get (.health r) =
              (s.alerts.causes.get (.health r)).suspectLeave (s.account r).alertMode)
          ∧ AlertsMoved [.health r] s u
          ∧ u.health.thresholds = s.health.thresholds ∧ u.health.decayTimer = s.health.decayTimer
          ∧ u.health.decayInterval = s.health.decayInterval
          ∧ Keeps [.health, .alerts] s u))

/-- QUEUE_FLUSH (R113): every entry leaves the queue, QUEUE_FULL is false, and the active repair continues. -/
def Obligations.QueueFlushEmptiesQueue : Prop :=
  ∀ (s : State) (tag : Tag) (v : Word), s.apertureReady tag = true → ∃ u t : State,
    exec (.queueFlush tag v) s = .next t ∧ WriteTaken tag 47 .done s u t
    ∧ u.queue = [] ∧ u.alerts.causes.queueFull = (s.alerts.causes.queueFull).setCondition false
    ∧ AlertsMoved [.queueFull] s u ∧ Keeps [.queue, .alerts] s u

/-- MOVE_APERTURE (R194): a multiple of 512 that leaves 512 bytes within the span becomes the pending base; any other value is
refused; the base itself does not change. -/
def Obligations.MoveApertureSetsPendingBase : Prop :=
  ∀ (s : State) (tag : Tag) (v : Word), s.apertureReady tag = true →
    (v.toNat % 512 = 0 ∧ v.toNat + 512 ≤ s.spanBytes → ∃ u t : State,
      exec (.moveAperture tag v) s = .next t ∧ WriteTaken tag 48 .done s u t
      ∧ u = { s with session := { s.session with pendingBase := some v.toNat } })
    ∧ (¬(v.toNat % 512 = 0 ∧ v.toNat + 512 ≤ s.spanBytes) → ∃ t : State,
        exec (.moveAperture tag v) s = .next t ∧ WriteRefused tag 48 .refusedArgument s t)

/-- SOFT_RESET (R202 and the soft-reset rule of each block), on states that the invariants RebuildInvariantKept, EnginesInvariantKept
(both of its parts), AlertUnitInvariantKept and RepairQueueInvariantKept allow. Slots keep their records (R48): an ISSUED or ANSWERED one keeps its state, a READY
or WAITING one is READY or WAITING as the released blocks leave it, the oldest of a block that is free then not WAITING, and only the
rebuild target's entry of an op its port had in its list becomes LOST. Ports keep their state, limit and entries (R106), those of the
abandoned work marked owner gone; a READY port of the rebuild target begins its abort. A block that an engine held or that was draining
is under a draining hold exactly while ops of that engine for it remain (R42, R139, R161). That the run count stays is R106, which the
model follows where R104 would have it return to 0 (log 14). The decisions the abandoned work makes ready follow. -/
def Obligations.SoftResetActsOnEveryBlock : Prop :=
  ∀ (s : State) (tag : Tag) (v : Word), s.apertureReady tag = true → s.RebuildWf → s.EnginesWf → s.HoldsWf → s.AlertsWf →
    s.QueueWf → ∃ u t : State,
    exec (.softReset tag v) s = .next t.settle ∧ WriteTaken tag 49 .done s u t
    ∧ (∀ r, ((s.account r).votes = true → u.account r = { s.account r with state := .healthy, score := 0 })
        ∧ ((s.account r).state = .retired → u.account r = s.account r)
        ∧ ((s.account r).state = .rebuilding →
            u.account r = { s.account r with state := .retired, reason := .rebuildFailed }))
    ∧ u.health.thresholds = s.health.thresholds ∧ u.health.decayTimer = s.health.decayTimer
    ∧ u.health.decayInterval = s.health.decayInterval
    ∧ (s.copy.state = .idle → u.copy = s.copy)
    ∧ (s.copy.state ≠ .idle →
        u.copy = { s.copy with state := .idle, step := .none, outcome := .abortedReset, op := .none })
    ∧ u.queue = [] ∧ u.repair.phase = .idle ∧ u.repair.op = .none ∧ u.scrub.op = .none
    ∧ u.scrub.pointer = 0 ∧ u.scrub.passCount = s.scrub.passCount ∧ u.scrub.reason = .none
    ∧ u.scrub.on = s.scrub.on ∧ u.scrub.interval = s.scrub.interval
    ∧ (s.scrub.on = true → u.scrub.state = .waiting ∧ u.scrub.timer = some s.scrub.interval)
    ∧ (s.scrub.on = false → u.scrub.state = .off ∧ u.scrub.timer = none)
    ∧ u.records = { list := [], nextSeq := 0, lost := 0 }
    ∧ (∀ e, (u.lock e).held = none ∧ (u.lock e).claim = none)
    ∧ (let gone (x : IssueEntry) : Bool :=
          x.op.owner == .engine .repair || x.op.owner == .engine .scrub
            || (x.op.owner == .engine .copy && s.copy.state != .idle)
       (∀ r, s.rebuildTarget ≠ some r ∨ (s.port r).state ≠ .ready → u.port r =
          { s.port r with list := (s.port r).list.map fun x => { x with ownerGone := x.ownerGone || gone x } })
        ∧ (∀ r, s.rebuildTarget = some r → (s.port r).state = .ready → u.port r =
          { s.port r with state := .aborting, list := [], abortLimit := some 16, abort := true }))
    ∧ RequestsKept (fun i r => s.rebuildTarget = some r ∧ (s.port r).state = .ready
        ∧ ∃ x ∈ (s.port r).list, x.op.owner = .slot i) s u
    ∧ (∀ e b, (u.lock e).draining = some b ↔
        ((s.lock e).held = some b ∨ (s.lock e).draining = some b) ∧ u.OpsRemain e b)
    ∧ (∀ e b, (s.lock e).held = some b → ¬u.Drains b → ∀ pre i post sl, s.rt.acceptOrder = pre ++ i :: post →
        s.slot i = some sl → sl.block = b → (∀ j ∈ pre, ∀ old, s.slot j = some old → old.block ≠ b) →
        ∀ sl', u.slot i = some sl' → sl'.state ≠ .waiting)
    ∧ u.ports.replyTimeout = s.ports.replyTimeout ∧ u.ports.runCount = s.ports.runCount
    ∧ u.rt.holding = s.rt.holding ∧ u.rt.acceptOrder = s.rt.acceptOrder ∧ u.rt.answerOrder = s.rt.answerOrder
    ∧ u.rt.channel = s.rt.channel
    ∧ u.regions.descriptors = s.regions.descriptors ∧ u.regions.defaultScrub = s.regions.defaultScrub
    ∧ (∀ n, s.copy.kind = .fill n → s.copy.state ≠ .idle → u.regions.fillMark = none)
    ∧ (s.copy.state = .idle ∨ (∀ n, s.copy.kind ≠ .fill n) → u.regions.fillMark = s.regions.fillMark)
    ∧ u.alerts.enable = s.alerts.enable
    ∧ u.alerts.causes.degraded = { latch := decide (u.votingCount < 3), condition := decide (u.votingCount < 3), acked := false }
    ∧ u.alerts.causes.queueFull = .clear ∧ (∀ r, u.alerts.causes.get (.health r) = .clear)
    ∧ u.alerts.causes.copyDone.latch = decide (s.copy.state ≠ .idle)
    ∧ u.alerts.causes.retire.latch = (s.rebuildTarget).isSome
    ∧ u.alerts.causes.dataLoss.latch = false ∧ u.alerts.causes.recordsLost.latch = false
    ∧ u.alerts.causes.sessionExpired.latch = false
    ∧ u.session =
        { s.session with
          state := .closed, idleTimer := none, base := s.session.pendingBase.getD s.session.base, pendingBase := none }
    ∧ u.pins = s.pins ∧ u.freeIndex = s.freeIndex ∧ u.pending = s.pending

/-! ## The engines' grants and claims -/

/-- The seven engine grants (R102, R104, R117, R119, R121, R135, R145, R151, R153): the arbiter's engine, in the phase of the row, has
its op issued with its answers at the grant; then the decisions made ready follow. A READ op names the replicas it was made ready
with that vote at its grant (R14; log 23), and a named replica whose port is not READY is LOST at the grant, an OFF one as well
(the model's reading, log 23); an op whose replicas have all gone is granted all the same (the model's reading, log 28). The repair's
WRITE grant fixes whether the write includes the rebuild target (R119, R125). -/
def Obligations.EngineGrantsIssueTheirOps : Prop :=
  ∀ s : State,
    let read (e : Engine) (block : Nat) (origin : Origin) : Op :=
      { owner := .engine e, kind := .read, block := block, firstWord := 0, length := 8, enables := [], data := [],
        origin := origin }
    let write (e : Engine) (block : Nat) (data : List Word) (origin : Origin) : Op :=
      { owner := .engine e, kind := .write, block := block, firstWord := 0, length := 8,
        enables := List.replicate 8 0xFF#8, data := data, origin := origin }
    (∀ ready, s.arbiter = some (.engine .repair) → s.repair.phase = .read → s.repair.op = .ready ready → ∃ u named,
      exec .repairReadGrant s = .next u.settle
      ∧ EngineIssued .repair (read .repair s.repair.block .repair) named s.repair.target s u
      ∧ ∀ r, named.get r = true ↔ ready.get r = true ∧ (s.account r).votes = true)
    ∧ (s.arbiter = some (.engine .repair) → s.repair.phase = .write → ∃ u named,
      exec .repairWriteGrant s = .next u.settle
      ∧ EngineIssued .repair (write .repair s.repair.block s.repair.values .repair) named u.repair.target s u
      ∧ (∀ r, u.repair.target = some r ↔
          s.copy.kind = .rebuild r ∧ s.copy.state = .running ∧ s.repair.block < s.copy.pointer)
      ∧ ∀ r, named.get r = true ↔
          (s.repair.mask.get r = true ∧ (s.account r).votes = true) ∨ u.repair.target = some r)
    ∧ (s.arbiter = some (.engine .repair) → s.repair.phase = .verify → ∃ u named,
      exec .repairVerifyGrant s = .next u.settle
      ∧ EngineIssued .repair (read .repair s.repair.block .repair) named s.repair.target s u
      ∧ ∀ r, named.get r = true ↔
          (∃ w, s.repair.writeSet.get r = some (.ok w)) ∧ ((s.account r).votes = true ∨ s.repair.target = some r))
    ∧ (s.arbiter = some (.engine .scrub) → s.scrub.state = .reading → ∃ u,
      exec .scrubReadGrant s = .next u.settle
      ∧ EngineIssued .scrub (read .scrub s.scrub.pointer .scrub) s.voting s.repair.target s u)
    ∧ (∀ n, s.arbiter = some (.engine .copy) → s.copy.kind = .fill n → s.copy.step = .write → ∃ u,
      exec .fillWriteGrant s = .next u.settle
      ∧ EngineIssued .copy (write .copy s.copy.pointer (List.replicate 8 s.copy.pattern) .fill) s.voting s.repair.target s u)
    ∧ (∀ r ready, s.arbiter = some (.engine .copy) → s.copy.kind = .rebuild r → s.copy.step = .read →
        s.copy.op = .ready ready → ∃ u named,
      exec .rebuildReadGrant s = .next u.settle
      ∧ EngineIssued .copy (read .copy s.copy.pointer .rebuild) named s.repair.target s u
      ∧ ∀ q, named.get q = true ↔ ready.get q = true ∧ (s.account q).votes = true)
    ∧ (∀ r named, s.arbiter = some (.engine .copy) → s.copy.kind = .rebuild r → s.copy.step = .write →
        s.copy.op = .ready named → ∃ u,
      exec .rebuildWriteGrant s = .next u.settle
      ∧ EngineIssued .copy (write .copy s.copy.pointer s.copy.values .rebuild) named s.repair.target s u)

/-- BLOCK_CLAIM_GRANT (R39, R40, R41, R116, R134, R144, R151): a pending claim is granted when no upstream request for the block is
ISSUED, no other engine holds it, it is under no draining hold, and no claim of higher rank is pending on it; its engine enters its
next phase, READY requests for the block return to WAITING, and another engine's grant refuses a pending scrub claim. A scrub claim
on a block held by another or draining is refused; every other claim stays pending. -/
def Obligations.ClaimGrantLocksBlock : Prop :=
  ∀ (s : State) (e : Engine) (block : Nat), (s.lock e).claim = some block →
    (s.ClaimFree e block → ¬s.Outranked e block → ∃ u : State,
      exec (.blockClaimGrant e) s = .next u.settle ∧ u = s.grantClaim e block
      ∧ u.lock e = { s.lock e with held := some block, claim := none }
      ∧ (∀ e', e' ≠ e → e' ≠ .scrub → u.lock e' = s.lock e')
      ∧ (∀ i, u.slot i = (s.slot i).map fun sl =>
          if sl.route = .memory ∧ sl.block = block ∧ sl.state = .ready then { sl with state := .waiting } else sl)
      ∧ (e = .repair → u.repair.phase = .read ∧ u.copy = s.copy
          ∧ u.repair.op = (if (s.repair.sources.inter s.voting).isEmpty then .out ⟨none, none, none⟩
              else .ready (s.repair.sources.inter s.voting)))
      ∧ (∀ n, e = .copy → s.copy.kind = .fill n → u.copy.step = .write ∧ u.copy.op = .ready s.voting ∧ u.repair = s.repair)
      ∧ (∀ r, e = .copy → s.copy.kind = .rebuild r → u.copy.step = .read ∧ u.repair = s.repair
          ∧ u.copy.op = (if s.voting.isEmpty then .out ⟨none, none, none⟩ else .ready s.voting))
      ∧ (e = .scrub → u.scrub = { s.scrub with state := .reading, op := .ready s.voting } ∧ u.copy = s.copy
          ∧ u.repair = s.repair)
      ∧ (e ≠ .scrub → (s.lock .scrub).claim = some block →
          u.scrub = s.scrub.endVisit (s.spanBlocks - 1) ∧ u.lock .scrub = { s.lock .scrub with claim := none })
      ∧ (e ≠ .scrub → (s.lock .scrub).claim ≠ some block → u.scrub = s.scrub ∧ u.lock .scrub = s.lock .scrub)
      ∧ Keeps [.rt, .repair, .scrub, .copy] s u)
    ∧ (e = .scrub → s.OtherHolds e block ∨ s.Drains block → ∃ t : State,
      exec (.blockClaimGrant e) s = .next t
      ∧ t.scrub = s.scrub.endVisit (s.spanBlocks - 1) ∧ t.lock .scrub = { s.lock .scrub with claim := none }
      ∧ t.lock .repair = s.lock .repair ∧ t.lock .copy = s.lock .copy ∧ t.rt = { s.rt with locks := t.rt.locks }
      ∧ Keeps [.rt, .scrub] s t)
    ∧ (¬s.ClaimFree e block ∨ s.Outranked e block → (e = .scrub → ¬s.OtherHolds e block ∧ ¬s.Drains block) →
        exec (.blockClaimGrant e) s = .next s)

/-- REPAIR_TAKE (R115): the IDLE engine takes the head of the queue, fixes its sources as the voting replicas outside the mask, and
claims the block. What a claim does when a claim of lower rank on that block is pending is FreedBlocksGoToClaimsThenRequests'. -/
def Obligations.RepairTakeTakesHead : Prop :=
  ∀ (s : State) (head : QueueEntry) (rest : List QueueEntry), s.repair.phase = .idle → s.queue = head :: rest → ∃ v t : State,
    exec .repairTake s = .next t
    ∧ v.queue = rest
    ∧ v.repair.phase = .claim ∧ v.repair.block = head.block ∧ v.repair.mask = head.mask
    ∧ v.repair.attempts = head.attempts ∧ v.repair.op = .none
    ∧ (∀ r, v.repair.sources.get r = true ↔ (s.account r).votes = true ∧ head.mask.get r = false)
    ∧ v.alerts.causes.queueFull = (s.alerts.causes.queueFull).setCondition (rest.length == 32)
    ∧ AlertsMoved [.queueFull] s v
    ∧ Keeps [.queue, .repair, .alerts] s v
    ∧ t = v.claim .repair head.block
    ∧ t.lock .repair = { s.lock .repair with claim := some head.block }
    ∧ (s.NoOtherClaim .repair head.block →
        t.lock .copy = s.lock .copy ∧ t.lock .scrub = s.lock .scrub ∧ t.rt = { s.rt with locks := t.rt.locks }
        ∧ Keeps [.rt] v t)
    ∧ Keeps [.rt, .copy, .scrub] v t

/-- What RT does with claims, locks and freed blocks. A freed block goes to a pending claim that nothing holds back, repair before copy
before scrub, and failing that the oldest memory request for it, where WAITING, becomes READY (R35, R38, R40, R42). A lock released
while ops of its engine for the block remain becomes a draining hold, which ends when the last of them has left (R42, R91). An
abandoned engine's entries are marked owner gone and its claim is withdrawn. A claim is granted before a later one of higher rank is
made, when nothing holds it back (the model's reading of 'the first moment' of R40, log 6). -/
def Obligations.FreedBlocksGoToClaimsThenRequests : Prop :=
  (∀ (s : State) (block : Nat),
    let takes (e : Engine) : Prop := (s.lock e).claim = some block ∧ s.ClaimFree e block
    let nobody : Prop := ∀ e, ¬takes e
    (takes .repair → s.freeBlock block = s.grantClaim .repair block)
    ∧ (¬takes .repair → takes .copy → s.freeBlock block = s.grantClaim .copy block)
    ∧ (¬takes .repair → ¬takes .copy → takes .scrub → s.freeBlock block = s.grantClaim .scrub block)
    ∧ (nobody → ∀ pre i post sl, s.rt.acceptOrder = pre ++ i :: post → s.slot i = some sl → sl.block = block →
        (∀ j ∈ pre, ∀ old, s.slot j = some old → old.block ≠ block) →
          (sl.state = .waiting → (∀ e, (s.lock e).held ≠ some block) → ¬s.Drains block →
            s.freeBlock block = s.setSlot i (some { sl with state := .ready }))
          ∧ (sl.state ≠ .waiting ∨ (∃ e, (s.lock e).held = some block) ∨ s.Drains block → s.freeBlock block = s))
    ∧ (nobody → (∀ i ∈ s.rt.acceptOrder, ∀ sl, s.slot i = some sl → sl.block ≠ block) → s.freeBlock block = s))
  ∧ (∀ (s : State) (e : Engine),
    ((s.lock e).held = none → s.releaseLock e = s)
    ∧ (∀ b, (s.lock e).held = some b →
        (s.OpsRemain e b → s.releaseLock e = s.setLock e { held := none, claim := none, draining := some b })
        ∧ (¬s.OpsRemain e b →
            s.releaseLock e = (s.setLock e { s.lock e with held := none, claim := none }).freeBlock b))
    ∧ (∃ v : State, s.abandon e = v.releaseLock e
        ∧ (∀ r, v.port r =
            { s.port r with
              list := (s.port r).list.map fun x => { x with ownerGone := x.ownerGone || x.op.owner == .engine e } })
        ∧ v.ports.replyTimeout = s.ports.replyTimeout ∧ v.ports.runCount = s.ports.runCount
        ∧ v.lock e = { s.lock e with claim := none } ∧ (∀ e', e' ≠ e → v.lock e' = s.lock e')
        ∧ v.rt = { s.rt with locks := v.rt.locks } ∧ Keeps [.ports, .rt] s v))
  ∧ (∀ (s : State) (e : Engine) (block : Nat),
    ((s.lock e).draining = some block → ¬s.OpsRemain e block →
        s.goneLeft e block = (s.setLock e { s.lock e with draining := none }).freeBlock block)
    ∧ ((s.lock e).draining ≠ some block ∨ s.OpsRemain e block → s.goneLeft e block = s))
  ∧ (∀ (s : State) (block : Nat),
    let earlier (e : Engine) (u v : State) : Prop :=
      ((u.lock e).claim = some block → u.ClaimFree e block → ¬u.Outranked e block → v = u.grantClaim e block)
      ∧ ((u.lock e).claim ≠ some block ∨ ¬u.ClaimFree e block ∨ u.Outranked e block → v = u)
    s.claim .scrub block = s.setLock .scrub { s.lock .scrub with claim := some block }
    ∧ (∃ v, earlier .scrub s v ∧ s.claim .copy block = v.setLock .copy { v.lock .copy with claim := some block })
    ∧ (∃ u v, earlier .copy s u ∧ earlier .scrub u v
        ∧ s.claim .repair block = v.setLock .repair { v.lock .repair with claim := some block }))

/-! ## The replica ports -/

/-- BANK_OP_ACCEPT (R89): the op presented on a READY port is the oldest its bank has not accepted; it is marked accepted and stays
in the list. -/
def Obligations.BankAcceptsOldestUnacceptedOp : Prop :=
  ∀ (s : State) (r : Replica), (s.port r).state = .ready →
    (∀ pre x post, (s.port r).list = pre ++ x :: post → (∀ y ∈ pre, y.accepted = true) → x.accepted = false → ∃ t : State,
      exec (.bankOpAccept r) s = .next t
      ∧ s.presentedOp r = some x.op
      ∧ t.port r = { s.port r with list := pre ++ { x with accepted := true } :: post }
      ∧ (∀ q, q ≠ r → t.port q = s.port q) ∧ t.ports.runCount = s.ports.runCount
      ∧ t.ports.replyTimeout = s.ports.replyTimeout ∧ Keeps [.ports] s t)
    ∧ ((∀ y ∈ (s.port r).list, y.accepted = true) →
        s.presentedOp r = none ∧ exec (.bankOpAccept r) s = .next s)

/-- PORT_ANSWER (R90, R91, R93): the answer belongs to the head of the READY port's list, which leaves the list. It is handed to a slot
or a live engine where that replica is PENDING, and changes nothing of an owner where it is not; for an owner that is gone it is
discarded and RT is told. Then the decisions made ready follow, and a new head whose deadline is already reached times out at once. -/
def Obligations.PortAnswerGoesToHeadsOwner : Prop :=
  (∀ (s : State) (r : Replica) (answer : BankAnswer) (head : IssueEntry) (rest : List IssueEntry),
    (s.port r).state = .ready → (s.port r).list = head :: rest → ∃ u : State,
      exec (.portAnswer r answer) s = .next (u.settle.expireHead r)
      ∧ u.port r = { s.port r with list := rest } ∧ (∀ q, q ≠ r → u.port q = s.port q)
      ∧ u.ports.replyTimeout = s.ports.replyTimeout ∧ u.ports.runCount = s.ports.runCount
      ∧ (let x : OpAnswer :=
          match answer, head.op.kind with
          | .error, _ => .error
          | .data words, .read => .ok (words.toList.take head.op.length)
          | .data _, .write => .ok []
         (∀ i, head.op.owner = .slot i →
            Keeps [.ports, .rt] s u ∧ u.rt = { s.rt with slots := u.rt.slots } ∧ (∀ j, j ≠ i → u.slot j = s.slot j)
            ∧ ((∀ sl role, s.slot i = some sl → sl.voters.get r ≠ some ⟨role, .pending⟩) → u.slot i = s.slot i)
            ∧ (∀ sl role, s.slot i = some sl → sl.voters.get r = some ⟨role, .pending⟩ →
                u.slot i = some { sl with voters := sl.voters.set r (some ⟨role, x⟩) }))
         ∧ (∀ e answers, head.op.owner = .engine e → head.ownerGone = false → s.engineOp e = .out answers →
            answers.get r = some .pending →
            u.engineOp e = .out (answers.set r (some x)) ∧ (∀ e', e' ≠ e → u.engineOp e' = s.engineOp e')
            ∧ u.rt = s.rt ∧ Keeps [.ports, .repair, .copy, .scrub] s u)
         ∧ (∀ e, head.op.owner = .engine e → head.ownerGone = false →
            (∀ answers, s.engineOp e = .out answers → answers.get r ≠ some .pending) →
            u = s.setPort r { s.port r with list := rest })
         ∧ (∀ e, head.op.owner = .engine e → head.ownerGone = true →
            u = State.goneLeft e head.op.block (s.setPort r { s.port r with list := rest }))))
  ∧ (∀ (s : State) (r : Replica),
    (∀ head rest, (s.port r).state = .ready → (s.port r).list = head :: rest → head.deadline = 0 →
      exec (.portTimeout r) s = .next (s.expireHead r))
    ∧ (∀ head rest, (s.port r).state = .ready → (s.port r).list = head :: rest → head.deadline ≠ 0 → s.expireHead r = s)
    ∧ ((s.port r).state ≠ .ready ∨ (s.port r).list = [] → s.expireHead r = s))

/-- PORT_TIMEOUT (R95, R96), its five steps in order, when the head's deadline is reached: the port is ABORTING with its limit, every
entry leaves as LOST, head first; the replica is charged TIMEOUT once; one TIMEOUT record names the head's block and origin; ABORT is
asserted. Then the owners decide. -/
def Obligations.PortTimeoutTakesFiveSteps : Prop :=
  ∀ (s : State) (r : Replica) (head : IssueEntry) (rest : List IssueEntry),
    (s.port r).state = .ready → (s.port r).list = head :: rest → head.deadline = 0 → ∃ v u : State,
      exec (.portTimeout r) s = .next u.settle
      ∧ v.port r = { s.port r with state := .aborting, list := [], abortLimit := some 16 }
      ∧ v = (s.port r).list.foldl (fun w x => w.handOn r .lost x) (s.setPort r (v.port r))
      ∧ u = State.assertAbort r
          (State.recordEvent
            { kind := .timeout, origin := head.op.origin, block := head.op.block, mask := Tri.only r, word := none,
              queued := false }
            (v.charge r .timeout))
      ∧ (u.port r).state = .aborting ∧ (u.port r).list = [] ∧ (u.port r).abort = true
      ∧ (u.port r).abortLimit = some 16

/-- ABORT_DONE and its deassertion (R99, R150): only a rising assertion on an ABORTING port ends the abort, READY when the replica votes
or is the rebuild target, else OFF; a copy engine in STARTING then enters RUNNING and claims the block at its pointer. The
deassertion is remembered as the level alone. -/
def Obligations.AbortDoneEndsAbort : Prop :=
  ∀ (s : State) (r : Replica),
    ((s.port r).abortDone = true → exec (.abortDone r) s = .next s)
    ∧ ((s.port r).abortDone = false → (s.port r).state ≠ .aborting → ∃ t : State,
        exec (.abortDone r) s = .next t ∧ t = s.setPort r { s.port r with abortDone := true })
    ∧ ((s.port r).abortDone = false → (s.port r).state = .aborting → ∃ v t : State,
        exec (.abortDone r) s = .next t
        ∧ v.port r =
            { s.port r with
              state := if (s.account r).votes = true ∨ s.rebuildTarget = some r then .ready else .off
              abortLimit := none, abort := false, abortDone := true }
        ∧ (∀ q, q ≠ r → v.port q = s.port q)
        ∧ v.ports.runCount = s.ports.runCount ∧ v.ports.replyTimeout = s.ports.replyTimeout
        ∧ (s.rebuildTarget = some r → s.copy.state = .starting →
            v.copy = { s.copy with state := .running, step := .claim } ∧ Keeps [.ports, .copy] s v
            ∧ t = v.claim .copy s.copy.pointer
            ∧ t.lock .copy = { s.lock .copy with claim := some s.copy.pointer }
            ∧ t.lock .repair = s.lock .repair
            ∧ ((s.lock .scrub).claim ≠ some s.copy.pointer →
                t.lock .scrub = s.lock .scrub ∧ t.rt = { s.rt with locks := t.rt.locks } ∧ Keeps [.rt] v t)
            ∧ Keeps [.rt, .scrub] v t)
        ∧ (¬(s.rebuildTarget = some r ∧ s.copy.state = .starting) → t = v ∧ Keeps [.ports] s v))
    ∧ (∃ t : State, exec (.abortDoneDeassert r) s = .next t ∧ t = s.setPort r { s.port r with abortDone := false })

/-- PORT_DEAD (R13, R100) when the abort limit is reached: the port is OFF with ABORT deasserted. A voting replica is retired with
PORT_DEAD, and where it was the last one a copy in progress ends with ABORTED_SOURCES (R159); a REBUILDING one's rebuild ends with
ABORTED_TARGET (R155) and the replica is RETIRED with REBUILD_FAILED (R18); a RETIRED one keeps state and reason. What a retirement
does to every other block is RetirementReachesEveryBlock's, what the end of a copy does CopyAbortEndsTheCopy's. That a replica is
REBUILDING exactly while the copy engine rebuilds it is the invariant RebuildInvariantKept, a premise where it is needed. -/
def Obligations.DeadPortRetiresItsReplica : Prop :=
  ∀ (s : State) (r : Replica), (s.port r).state = .aborting → (s.port r).abortLimit = some 0 → ∃ v u : State,
    exec (.portDead r) s = .next u.settle
    ∧ v = s.setPort r { s.port r with state := .off, list := [], abortLimit := none, abort := false }
    ∧ u.port r = v.port r
    ∧ ((s.account r).votes = true →
        u = v.retire r .portDead
        ∧ (s.RebuildWf → u.account r = { s.account r with state := .retired, reason := .portDead })
        ∧ (s.votingCount ≠ 1 ∨ s.copy.state = .idle → s.EnginesWf →
            u.copy = s.copy ∧ ∀ q, q ≠ r → u.account q = s.account q)
        ∧ (s.votingCount = 1 → s.copy.state ≠ .idle →
            u.copy.state = .idle ∧ u.copy.step = .none ∧ u.copy.op = .none ∧ u.copy.outcome = .abortedSources
            ∧ u.copy.kind = s.copy.kind ∧ u.copy.pointer = s.copy.pointer ∧ u.copy.skipCount = s.copy.skipCount
            ∧ (∀ q, s.copy.kind = .rebuild q → q ≠ r →
                u.account q = { s.account q with state := .retired, reason := .rebuildFailed })))
    ∧ ((s.account r).state = .rebuilding → s.RebuildWf →
        u = v.copyEnd .abortedTarget
        ∧ u.account r = { s.account r with state := .retired, reason := .rebuildFailed }
        ∧ (∀ q, q ≠ r → u.account q = s.account q)
        ∧ u.copy = { s.copy with state := .idle, step := .none, outcome := .abortedTarget, op := .none })
    ∧ ((s.account r).state = .retired → u = v)

/-! ## The timers -/

/-- DECAY_EXPIRY (R9, R10): each voting score above 0 loses 1; then each SUSPECT account at or below CLEAR_AT enters HEALTHY with its
leave event; the timer, which had run out, restarts. -/
def Obligations.DecayLowersScores : Prop :=
  ∀ s : State, s.pins.resetAsserted = false → s.health.decayTimer = 0 → ∃ t : State,
    exec .decayExpiry s = .next t
    ∧ (∀ r, let a := s.account r
        let c := s.alerts.causes.get (.health r)
        (a.votes = false → t.account r = a ∧ t.alerts.causes.get (.health r) = c)
        ∧ (a.state = .healthy → t.account r = { a with score := a.score - 1 } ∧ t.alerts.causes.get (.health r) = c)
        ∧ (a.state = .suspect → s.health.thresholds.clearAt < a.score - 1 →
            t.account r = { a with score := a.score - 1 } ∧ t.alerts.causes.get (.health r) = c)
        ∧ (a.state = .suspect → a.score - 1 ≤ s.health.thresholds.clearAt →
            t.account r = { a with score := a.score - 1, state := .healthy }
            ∧ t.alerts.causes.get (.health r) = c.suspectLeave a.alertMode))
    ∧ t.health.decayTimer = s.health.decayInterval ∧ t.health.decayInterval = s.health.decayInterval
    ∧ t.health.thresholds = s.health.thresholds
    ∧ AlertsMoved [.health .a, .health .b, .health .c] s t
    ∧ Keeps [.health, .alerts] s t

/-- SCRUB_INTERVAL_EXPIRY (R132, R133, R134): the pause conditions in their order, each with its reason and a restarted timer; else the
eligible block of lowest index at or above the pointer, or after a wrap and one more pass the lowest of all, is claimed, and skipped
at once when another engine holds it or it is under a draining hold. A claim of another engine on it that no ISSUED request holds
back stands before the walker's, which is then refused in the same way (R41; the model's reading, log 6). The walker's timer has run
out. -/
def Obligations.ScrubExpiryPausesOrClaims : Prop :=
  ∀ s : State, (s.scrub.state = .waiting ∨ s.scrub.state = .paused) → s.scrub.timer = some 0 →
    let paused (reason : PauseReason) : Prop := ∃ t : State,
      exec .scrubIntervalExpiry s = .next t
      ∧ t.scrub = { s.scrub with state := .paused, reason := reason, timer := some s.scrub.interval }
      ∧ Keeps [.scrub] s t
    let chooses (b pass : Nat) : Prop :=
      let w : Scrub :=
        { s.scrub with state := .claiming, reason := .none, timer := none, pointer := b, passCount := pass }
      let taken := s.OtherHolds .scrub b ∨ s.Drains b ∨ (¬s.NoOtherClaim .scrub b ∧ ¬s.IssuedFor b)
      ∃ t : State,
        exec .scrubIntervalExpiry s = .next t
        ∧ (¬taken → t.scrub = w ∧ t.lock .scrub = { s.lock .scrub with claim := some b })
        ∧ (taken → t.scrub = w.endVisit (s.spanBlocks - 1) ∧ t.lock .scrub = { s.lock .scrub with claim := none })
        ∧ t.lock .repair = s.lock .repair ∧ t.lock .copy = s.lock .copy ∧ t.rt = { s.rt with locks := t.rt.locks }
        ∧ Keeps [.scrub, .rt] s t
    let eligible (b : Nat) : Prop := b < s.spanBlocks ∧ s.regions.eligible b = true
    (s.votingCount < 2 → paused .fewReplicas)
    ∧ (2 ≤ s.votingCount → 24 ≤ s.queue.length → paused .queueHigh)
    ∧ (2 ≤ s.votingCount → s.queue.length < 24 → (∀ b, ¬eligible b) → paused .noBlocks)
    ∧ (∀ b, 2 ≤ s.votingCount → s.queue.length < 24 → eligible b → s.scrub.pointer ≤ b →
        (∀ b', s.scrub.pointer ≤ b' → b' < b → ¬eligible b') → chooses b s.scrub.passCount)
    ∧ (∀ b, 2 ≤ s.votingCount → s.queue.length < 24 → eligible b → (∀ b', s.scrub.pointer ≤ b' → ¬eligible b') →
        (∀ b', b' < b → ¬eligible b') → chooses b ((s.scrub.passCount + 1) % 65536))

/-! ## Decisions and what they report -/

/-- The per-word table of R63: the outcome, its value and its status. -/
def Obligations.WordVoteFollowsTable : Prop :=
  ∀ x y z : Word,
    voteWord ⟨some x, some x, some x⟩ = .clean x
    ∧ (x ≠ y →
        voteWord ⟨some x, some x, some y⟩ = .corrected x .c
        ∧ voteWord ⟨some x, some y, some x⟩ = .corrected x .b
        ∧ voteWord ⟨some y, some x, some x⟩ = .corrected x .a
        ∧ voteWord ⟨some x, some y, none⟩ = .divergent ∧ voteWord ⟨some x, none, some y⟩ = .divergent
        ∧ voteWord ⟨none, some x, some y⟩ = .divergent)
    ∧ (x ≠ y → y ≠ z → x ≠ z → voteWord ⟨some x, some y, some z⟩ = .divergent)
    ∧ voteWord ⟨some x, some x, none⟩ = .clean x ∧ voteWord ⟨some x, none, some x⟩ = .clean x
    ∧ voteWord ⟨none, some x, some x⟩ = .clean x
    ∧ voteWord ⟨some x, none, none⟩ = .single x ∧ voteWord ⟨none, some x, none⟩ = .single x
    ∧ voteWord ⟨none, none, some x⟩ = .single x
    ∧ voteWord ⟨none, none, none⟩ = .noValue
    ∧ (WordOutcome.clean x).value = x ∧ (∀ r, (WordOutcome.corrected x r).value = x) ∧ (WordOutcome.single x).value = x
    ∧ WordOutcome.divergent.value = 0 ∧ WordOutcome.noValue.value = 0
    ∧ (WordOutcome.clean x).status = .clean ∧ (∀ r, (WordOutcome.corrected x r).status = .corrected)
    ∧ (WordOutcome.single x).status = .single
    ∧ WordOutcome.divergent.status = .failed ∧ WordOutcome.noValue.status = .failed

/-- The decision of a slot (R62, R64, R69, R70, R72, R75): the slot is answered first, a read with the worst outcome of its words, the
failed-word mask and the delivered words, a write with the status its VOTER answers give; the block is freed (R38); then the reports
are handed, DATA_LOSS last for a FAILED read. A write reports a target failure last (the model's order, log 27), and its TARGET entry
has the consequences log 15 and log 16 name; DecisionReportsReachTheirOwners says what each report gives. A first phase of a FAST
read that gives no value falls back instead, stays ISSUED, and keeps its target set and answers until the second grant (R32). -/
def Obligations.SlotDecisionGivesStatus : Prop :=
  ∀ (s : State) (i : SlotId) (sl : Slot), s.slot i = some sl →
    (sl.kind = .write → ∃ sl' : Slot,
      s.decideSlot i =
        (if sl'.status = some .failed then
          State.reportTarget sl
            (State.reportUnwritten sl (State.reportRemovals sl ((s.answerSlot i sl').freeBlock sl.block)))
        else
          State.reportTarget sl
            (State.reportMissed sl (State.reportRemovals sl ((s.answerSlot i sl').freeBlock sl.block))))
      ∧ sl' = { sl with status := sl'.status }
      ∧ (let answer (r : Replica) (p : OpAnswer → Prop) : Prop := ∃ x, sl.voters.get r = some ⟨.voter, x⟩ ∧ p x
         let ok : OpAnswer → Prop := fun x => ∃ w, x = .ok w
         ((∀ r, ¬answer r ok) → sl'.status = some .failed)
         ∧ (∀ q, answer q ok → (∀ r, r ≠ q → ¬answer r fun _ => True) → sl'.status = some .single)
         ∧ (∀ q r, q ≠ r → answer q ok → answer r ok → (∀ p x, sl.voters.get p = some ⟨.voter, x⟩ → ok x) →
              sl'.status = some .clean)
         ∧ (∀ q r, answer q ok → answer r (fun x => ¬ok x) → sl'.status = some .partialWrite)))
    ∧ (sl.kind = .read →
        (sl.fastPhase ≠ .first ∨ (∀ r, sl.voters.get r = none)
          ∨ ∃ r role words, sl.voters.get r = some ⟨role, .ok words⟩ ∧ (s.account r).votes = true
              ∧ ∀ q, q ≠ r → sl.voters.get q = none) → ∃ (sl' : Slot) (f : ReadFindings),
        s.decideSlot i =
          (if sl'.status = some .failed then
            State.raise .dataLoss
              (State.reportRead .upstreamRead sl.block f ((s.answerSlot i sl').freeBlock sl.block))
          else State.reportRead .upstreamRead sl.block f ((s.answerSlot i sl').freeBlock sl.block))
        ∧ sl' = { sl with status := sl'.status, failedMask := sl'.failedMask, words := sl'.words }
        ∧ (let value (r : Replica) (k : Nat) : Option Word :=
            match sl.voters.get r with
            | some ⟨.voter, .ok words⟩ => if (s.account r).votes then words[k]? else none
            | _ => none
           let word (k : Nat) : WordOutcome := voteWord ⟨value .a k, value .b k, value .c k⟩
           let has (p : WordOutcome → Prop) : Prop := ∃ k, k < sl.length ∧ p (word k)
           let failed : WordOutcome → Prop := fun o => o.status = .failed
           let corrected : WordOutcome → Prop := fun o =>
             o.status = .corrected ∨ (sl.fastPhase = .fallback ∧ o.status = .clean)
           let single : WordOutcome → Prop := fun o => o.status = .single
           sl'.words = (List.range sl.length).map (fun k => (word k).value)
           ∧ (∀ k, k < 8 → (sl'.failedMask.getLsbD k = true ↔ k < sl.length ∧ failed (word k)))
           ∧ (has failed → sl'.status = some .failed)
           ∧ (¬has failed → has corrected → sl'.status = some .corrected)
           ∧ (¬has failed → ¬has corrected → has single → sl'.status = some .single)
           ∧ (¬has failed → ¬has corrected → ¬has single → sl'.status = some .clean)
           ∧ (∀ r, f.outvoted.get r = true ↔ ∃ k, k < sl.length ∧ ∃ v, word k = .corrected v r)
           ∧ (∀ r, f.errors.get r = true ↔ (s.account r).votes = true
               ∧ (sl.voters.get r = some ⟨.voter, .error⟩ ∨ sl.firstAnswer = some (r, .error)))
           ∧ (∀ r, f.divergentMask.get r = true ↔ has (· = .divergent) ∧ (s.account r).votes = true
               ∧ ∃ words, sl.voters.get r = some ⟨.voter, .ok words⟩)
           ∧ (∀ k, k < sl.length → (word k = .divergent) → (∀ j, j < k → word j ≠ .divergent) →
               f.divergentWord = some (sl.firstWord + k))
           ∧ (∀ k v r, k < sl.length → word k = .corrected v r → (∀ j, j < k → ∀ v' r', word j ≠ .corrected v' r') →
               f.outvotedWord = some (sl.firstWord + k))))
    ∧ (∀ r role x, sl.kind = .read → sl.fastPhase = .first → sl.voters.get r = some ⟨role, x⟩ →
        (∀ q, q ≠ r → sl.voters.get q = none) → ((s.account r).votes = false ∨ ∀ words, x ≠ .ok words) →
        s.decideSlot i = s.setSlot i (some
          { sl with
            fastPhase := .fallback, firstAnswer := some (r, x), awaiting := true }))

/-- What the reports of a decision give, in the order of R75, where a voter list holds at most one TARGET entry (R62). A read (R76, R77,
R78, R84): one insertion for each replica outvoted or in error; then its charges in the order A, B, C; then its records, MISCOMPARE,
READ_ERROR, DIVERGENT (the order of the three is the model's, log 13), each queued when an insertion of its mask was stored. A
full-block write removes each voting VOTER that answered OK (R81, R110). A write that some VOTER acknowledged reports its voting
replicas that missed it (R79), a TARGET entry whose replica has come to vote among them (R73); one that no VOTER acknowledged reports
its voting VOTERs and DATA_LOSS (R80; the TARGET entry is left out, log 15). A TARGET entry that failed ends the rebuild of its replica
(R73, R155; log 16). Events with an empty mask are not reported (R82). -/
def Obligations.DecisionReportsReachTheirOwners : Prop :=
  let insertAll (block : Nat) (m : ReplicaSet) (s : State) : State × ReplicaSet :=
    let insert (r : Replica) (x : State × ReplicaSet) : State × ReplicaSet :=
      if m.get r = true then ((x.1.insertRepair block (Tri.only r) 0).1, x.2.set r (x.1.insertRepair block (Tri.only r) 0).2) else x
    insert .c (insert .b (insert .a (s, ⟨false, false, false⟩)))
  let queued (stored m : ReplicaSet) : Bool := (stored.a && m.a) || (stored.b && m.b) || (stored.c && m.c)
  let chargeMissed (m : ReplicaSet) (s : State) : State :=
    s.forEach fun r u => if m.get r = true then u.charge r .writeMissed else u
  let record (kind : RecordKind) (origin : Origin) (block : Nat) (mask : ReplicaSet) (word : Option Nat) (stored : Bool) :
      RecordEvent :=
    { kind := kind, origin := origin, block := block, mask := mask, word := word, queued := stored }
  (∀ (s : State) (origin : Origin) (block : Nat) (f : ReadFindings),
    let stored := insertAll block ⟨f.outvoted.a || f.errors.a, f.outvoted.b || f.errors.b, f.outvoted.c || f.errors.c⟩ s
    let charged := stored.1.forEach fun r u =>
      if f.outvoted.get r = true then u.charge r .miscompare
      else if f.errors.get r = true then u.charge r .readError
      else u
    s.reportRead origin block f =
      State.recordEvent (record .divergent origin block f.divergentMask f.divergentWord false)
        (State.recordEvent (record .readError origin block f.errors none (queued stored.2 f.errors))
          (State.recordEvent (record .miscompare origin block f.outvoted f.outvotedWord (queued stored.2 f.outvoted)) charged)))
  ∧ (∀ (s : State) (sl : Slot),
    (∀ q q' x x', sl.voters.get q = some ⟨.target, x⟩ → sl.voters.get q' = some ⟨.target, x'⟩ → q = q') →
      (∃ missed charged : ReplicaSet,
        (∀ r, missed.get r = true ↔ (s.account r).votes = true
          ∧ ∃ role, sl.voters.get r = some ⟨role, .error⟩ ∨ sl.voters.get r = some ⟨role, .lost⟩)
        ∧ (∀ r, charged.get r = true ↔ (s.account r).votes = true ∧ ∃ role, sl.voters.get r = some ⟨role, .error⟩)
        ∧ s.reportMissed sl =
          State.recordEvent
            (record .writeMissed .upstreamWrite sl.block missed none (queued (insertAll sl.block missed s).2 missed))
            (chargeMissed charged (insertAll sl.block missed s).1))
      ∧ (∃ mask charged : ReplicaSet,
        (∀ r, mask.get r = true ↔ (s.account r).votes = true ∧ ∃ x, sl.voters.get r = some ⟨.voter, x⟩)
        ∧ (∀ r, charged.get r = true ↔ (s.account r).votes = true ∧ sl.voters.get r = some ⟨.voter, .error⟩)
        ∧ s.reportUnwritten sl =
          State.raise .dataLoss
            (State.recordEvent (record .writeMissed .upstreamWrite sl.block mask none false) (chargeMissed charged s)))
      ∧ (∀ r x, sl.voters.get r = some ⟨.target, x⟩ →
          (x = .error ∨ x = .lost → s.reportTarget sl = s.targetFailure r)
          ∧ (x ≠ .error → x ≠ .lost → s.reportTarget sl = s))
      ∧ ((∀ r x, sl.voters.get r ≠ some ⟨.target, x⟩) → s.reportTarget sl = s))
  ∧ (∀ (s : State) (sl : Slot),
    (sl.length = 8 ∧ (∀ e ∈ sl.enables, e = 0xFF#8) → ∃ written : ReplicaSet,
      (∀ r, written.get r = true ↔ (s.account r).votes = true ∧ ∃ w, sl.voters.get r = some ⟨.voter, .ok w⟩)
      ∧ s.reportRemovals sl = s.forEach fun r u => if written.get r = true then u.removeRepair sl.block r else u)
    ∧ (sl.length ≠ 8 ∨ (∃ e ∈ sl.enables, e ≠ 0xFF#8) → s.reportRemovals sl = s))
  ∧ (∀ (s : State) (block : Nat) (r : Replica),
    let t := s.removeRepair block r
    t.queue = s.queue.filterMap (fun e =>
      let mask := if e.block = block then e.mask.set r false else e.mask
      if mask.a = false ∧ mask.b = false ∧ mask.c = false then none else some { e with mask := mask })
    ∧ t.alerts.causes.queueFull = (s.alerts.causes.queueFull).setCondition (t.queue.length == 32)
    ∧ AlertsMoved [.queueFull] s t ∧ Keeps [.queue, .alerts] s t)
  ∧ (∀ (s : State) (r : Replica),
    (s.rebuildTarget = some r → s.targetFailure r = s.copyEnd .abortedTarget)
    ∧ (s.rebuildTarget ≠ some r → s.targetFailure r = s))
  ∧ (∀ (s : State) (e : RecordEvent), e.mask.isEmpty = true → s.recordEvent e = s)

/-- The decision of a scrub read (R83, R84, R85): its findings are reported with origin SCRUB, DATA_LOSS only with a divergent word; then
the walker releases its lock and its visit ends. The end of a visit (R134, R136): the pointer advances, or wraps to 0 with one more
pass counted modulo 65536; the walker is WAITING with its interval timer restarted when SCRUB_ON is on, else OFF. -/
def Obligations.ScrubReadEndsItsVisit : Prop :=
  (∀ (s : State) (answers : Tri (Option OpAnswer)), s.scrub.op = .out answers → ∃ (f : ReadFindings) (v w : State),
    let word := s.wordVote answers
    let diverges : Prop := ∃ k, k < 8 ∧ word k = .divergent
    (∀ r, f.outvoted.get r = true ↔ ∃ k, k < 8 ∧ ∃ x, word k = .corrected x r)
    ∧ (∀ k, FirstWord 8 word (fun o => ∃ x r, o = .corrected x r) k → f.outvotedWord = some k)
    ∧ (∀ r, f.errors.get r = true ↔ (s.account r).votes = true ∧ answers.get r = some .error)
    ∧ (∀ r, f.divergentMask.get r = true ↔ diverges ∧ s.Contributes answers r)
    ∧ (∀ k, FirstWord 8 word (· = .divergent) k → f.divergentWord = some k)
    ∧ (diverges → v = (s.reportRead .scrub s.scrub.pointer f).raise .dataLoss)
    ∧ (¬diverges → v = s.reportRead .scrub s.scrub.pointer f)
    ∧ w = State.releaseLock .scrub { v with scrub := { v.scrub with op := .none } }
    ∧ s.decideScrub = { w with scrub := w.scrub.endVisit (s.spanBlocks - 1) })
  ∧ (∀ (w : Scrub) (last : Nat),
    (w.pointer < last → (w.endVisit last).pointer = w.pointer + 1 ∧ (w.endVisit last).passCount = w.passCount)
    ∧ (last ≤ w.pointer → (w.endVisit last).pointer = 0 ∧ (w.endVisit last).passCount = (w.passCount + 1) % 65536)
    ∧ (w.on = true → (w.endVisit last).state = .waiting ∧ (w.endVisit last).timer = some w.interval)
    ∧ (w.on = false → (w.endVisit last).state = .off ∧ (w.endVisit last).timer = none)
    ∧ (w.endVisit last).reason = .none ∧ (w.endVisit last).op = .none ∧ (w.endVisit last).on = w.on
    ∧ (w.endVisit last).interval = w.interval)

/-- What the repair engine does when an op of its has all its answers. READ (R118): with no contributing source, or with words that
differ, the repair is abandoned with its record; else the agreed values are written, or the repair ends when nobody is left to write
to (R119). WRITE (R120, R121): the rebuild target that the write included and that failed is reported while that rebuild lasts (R125);
then VERIFY reads back the replicas that acknowledged. VERIFY (R122): failed voters are inserted again with one more attempt up to 2,
charged, and recorded; a failed target not yet reported is reported; what is neither voting nor that target is given nothing (R124).
The end of a repair (R123): IDLE, and the lock is released. -/
def Obligations.RepairDecisionsAct : Prop :=
  (∀ s : State, s.endRepair = State.releaseLock .repair { s with repair := Repair.idle } ∧ Repair.idle.phase = .idle
    ∧ Repair.idle.op = .none)
  ∧ (∀ (s : State) (answers : Tri (Option OpAnswer)), s.repair.op = .out answers → s.repair.phase = .read →
    let word := s.wordVote answers
    let contributes := s.Contributes answers
    let diverges : Prop := ∃ k, k < 8 ∧ word k = .divergent
    let written (r : Replica) : Prop :=
      (s.repair.mask.get r = true ∧ (s.account r).votes = true)
        ∨ (s.copy.kind = .rebuild r ∧ s.copy.state = .running ∧ s.repair.block < s.copy.pointer)
    ((∀ r, ¬contributes r) → ∃ mask : ReplicaSet,
      (∀ r, mask.get r = true ↔ s.repair.mask.get r = true ∧ (s.account r).votes = true)
      ∧ s.decideRepair = State.endRepair (s.recordEvent
          { kind := .repairAbandoned, origin := .repair, block := s.repair.block, mask := mask, word := none, queued := false }))
    ∧ ((∃ r, contributes r) → diverges → ∃ (k : Nat) (who : ReplicaSet),
      FirstWord 8 word (· = .divergent) k ∧ (∀ r, who.get r = true ↔ contributes r)
      ∧ s.decideRepair = State.endRepair (State.raise .dataLoss (s.recordEvent
          { kind := .divergent, origin := .repair, block := s.repair.block, mask := who, word := some k, queued := false })))
    ∧ ((∃ r, contributes r) → ¬diverges → (∀ r, ¬written r) → s.decideRepair = s.endRepair)
    ∧ ((∃ r, contributes r) → ¬diverges → (∃ r, written r) → ∃ named : ReplicaSet,
      (∀ r, named.get r = true ↔ written r)
      ∧ s.decideRepair =
        { s with
          repair :=
            { s.repair with
              phase := .write, values := (List.range 8).map fun k => (word k).value, op := .ready named } }))
  ∧ (∀ (s : State) (answers : Tri (Option OpAnswer)), s.repair.op = .out answers → s.repair.phase = .write → ∃ u : State,
    (∀ r, s.repair.target = some r → AnsweredBadly answers r →
      u = State.targetFailure r { s with repair := { s.repair with writeSet := answers, targetReported := true } })
    ∧ ((∀ r, s.repair.target = some r → ¬AnsweredBadly answers r) →
      u = { s with repair := { s.repair with writeSet := answers, targetReported := false } })
    ∧ ∃ named : ReplicaSet,
      (∀ r, named.get r = true ↔
        (∃ w, answers.get r = some (.ok w)) ∧ ((u.account r).votes = true ∨ u.repair.target = some r))
      ∧ s.decideRepair = { u with repair := { u.repair with phase := .verify, op := stageOf named } })
  ∧ (∀ (s : State) (answers : Tri (Option OpAnswer)), s.repair.op = .out answers → s.repair.phase = .verify →
    ∃ (voters : ReplicaSet) (target : ReplicaSet) (ins : State × Bool),
      let failed (r : Replica) : Prop := AnsweredBadly s.repair.writeSet r
        ∨ (answers.get r ≠ none ∧ answers.get r ≠ some (.ok s.repair.values))
      (∀ r, voters.get r = true ↔ failed r ∧ (s.account r).votes = true)
      ∧ (∀ r, target.get r = true ↔
          failed r ∧ (s.account r).votes = false ∧ s.repair.target = some r ∧ s.repair.targetReported = false)
      ∧ ((∃ r, voters.get r = true) → s.repair.attempts < 2 →
          ins = s.insertRepair s.repair.block voters (s.repair.attempts + 1))
      ∧ ((∀ r, voters.get r = false) ∨ 2 ≤ s.repair.attempts → ins = (s, false))
      ∧ s.decideRepair = State.endRepair (State.recordEvent
          { kind := .repairFailed, origin := .repair, block := s.repair.block, mask := voters, word := none, queued := ins.2 }
          (State.forEach (fun r u => if target.get r = true then u.targetFailure r else u)
            (State.forEach (fun r u => if voters.get r = true then u.charge r .repairFailed else u) ins.1))))

/-- What the copy engine does when an op of its has all its answers. A fill write (R146): the voting replicas that missed it are
inserted, charged where in error, and recorded; where no replica acknowledged, every voting replica named is recorded and DATA_LOSS is
raised; then the fill advances. A rebuild's read (R152): where a word has no agreed value the block is skipped with its record and
DATA_LOSS; else the values are written to the target. A rebuild's write (R153) advances, or ends the rebuild with ABORTED_TARGET.
The advance (R147, R154, R156): the pointer rises and the lock is released for the next claim, or after the end block the copy
completes. -/
def Obligations.CopyDecisionsAct : Prop :=
  (∀ s : State,
    let v : State := { s with copy := { s.copy with pointer := s.copy.pointer + 1, step := .claim, op := .none } }
    (s.copy.pointer = s.copy.endBlock → s.copyAdvance = v.copyEnd .completed)
    ∧ (s.copy.pointer ≠ s.copy.endBlock → s.copyAdvance = (v.releaseLock .copy).claim .copy (s.copy.pointer + 1)))
  ∧ (∀ (s : State) (n : RegionId) (answers : Tri (Option OpAnswer)),
    s.copy.op = .out answers → s.copy.kind = .fill n → s.copy.step = .write →
    ∃ (missed charged mask : ReplicaSet) (ins : State × Bool) (v : State),
      let reached : Prop := ∃ r w, answers.get r = some (.ok w)
      (∀ r, missed.get r = true ↔ reached ∧ (s.account r).votes = true ∧ AnsweredBadly answers r)
      ∧ (∀ r, charged.get r = true ↔ (s.account r).votes = true ∧ answers.get r = some .error)
      ∧ (∀ r, mask.get r = true ↔
          missed.get r = true ∨ (¬reached ∧ (s.account r).votes = true ∧ (answers.get r).isSome = true))
      ∧ ((∃ r, missed.get r = true) → ins = s.insertRepair s.copy.pointer missed 0)
      ∧ ((∀ r, missed.get r = false) → ins = (s, false))
      ∧ v = State.recordEvent
          { kind := .writeMissed, origin := .fill, block := s.copy.pointer, mask := mask, word := none, queued := ins.2 }
          (State.forEach (fun r u => if charged.get r = true then u.charge r .writeMissed else u) ins.1)
      ∧ (reached → s.decideCopy = v.copyAdvance)
      ∧ (¬reached → s.decideCopy = (v.raise .dataLoss).copyAdvance))
  ∧ (∀ (s : State) (r : Replica) (answers : Tri (Option OpAnswer)),
    s.copy.op = .out answers → s.copy.kind = .rebuild r → s.copy.step = .read →
    let word := s.wordVote answers
    ((∃ k, k < 8 ∧ (word k).status = .failed) → ∃ k : Nat,
      (FirstWord 8 word (· = .divergent) k ∨ (k = 0 ∧ ∀ j, j < 8 → word j ≠ .divergent))
      ∧ s.decideCopy = State.copyAdvance (State.raise .dataLoss (State.recordEvent
          { kind := .rebuildSkipped, origin := .rebuild, block := s.copy.pointer, mask := Tri.only r, word := some k,
            queued := false }
          { s with copy := { s.copy with skipCount := s.copy.skipCount + 1 } })))
    ∧ ((∀ k, k < 8 → (word k).status ≠ .failed) →
      s.decideCopy =
        { s with
          copy :=
            { s.copy with
              step := .write, values := (List.range 8).map fun k => (word k).value, op := .ready (Tri.only r) } }))
  ∧ (∀ (s : State) (r : Replica) (answers : Tri (Option OpAnswer)),
    s.copy.op = .out answers → s.copy.kind = .rebuild r → s.copy.step = .write →
    ((∀ q, ¬AnsweredBadly answers q) → s.decideCopy = s.copyAdvance)
    ∧ ((∃ q, AnsweredBadly answers q) → s.decideCopy = s.copyEnd .abortedTarget))

/-- A record event (R164, R165, R166, R167): merged into the record of its block and kind, else created at the tail with the next
sequence while the count is below 16, else dropped with the lost count raised and RECORDS_LOST latched. -/
def Obligations.RecordEventMergesCreatesOrDrops : Prop :=
  ∀ (s : State) (e : RecordEvent), e.mask.isEmpty = false →
    (∀ pre x post, s.records.list = pre ++ x :: post → x.block = e.block → x.kind = e.kind →
      (∀ y ∈ pre ++ post, ¬(y.block = e.block ∧ y.kind = e.kind)) →
        s.recordEvent e =
          { s with
            records :=
              { s.records with
                list := pre ++
                  { x with
                    mask := x.mask.union e.mask, repeats := min (x.repeats + 1) 255,
                    word := (match x.word, e.word with
                      | some i, some j => some (min i j)
                      | some i, none => some i
                      | none, w => w),
                    queued := x.queued || e.queued } :: post } })
    ∧ ((∀ y ∈ s.records.list, ¬(y.block = e.block ∧ y.kind = e.kind)) → s.records.list.length < 16 →
        s.recordEvent e =
          { s with
            records :=
              { s.records with
                list := s.records.list ++
                  [{ sequence := s.records.nextSeq, kind := e.kind, origin := e.origin, block := e.block, word := e.word,
                     mask := e.mask, repeats := 1, queued := e.queued }]
                nextSeq := (s.records.nextSeq + 1) % 65536 } })
    ∧ ((∀ y ∈ s.records.list, ¬(y.block = e.block ∧ y.kind = e.kind)) → 16 ≤ s.records.list.length →
        (s.recordEvent e).records = { s.records with lost := min (s.records.lost + 1) 255 }
        ∧ (s.recordEvent e).alerts.causes.recordsLost = { s.alerts.causes.recordsLost with latch := true }
        ∧ AlertsMoved [.recordsLost] s (s.recordEvent e)
        ∧ Keeps [.records, .alerts] s (s.recordEvent e))

/-- An insertion (R108, R109): replicas that do not vote are dropped, and with none left nothing is stored; an entry of the block takes
the others into its mask and the larger attempts, and in a state that AlertUnitInvariantKept allows no alert moves; else a new entry at
the tail while the depth is below 32; else nothing is stored. -/
def Obligations.InsertionMergesAppendsOrDrops : Prop :=
  ∀ (s : State) (block attempts : Nat) (named : ReplicaSet),
    let mask := named.inter s.voting
    let res := s.insertRepair block named attempts
    (mask.isEmpty = true → res = (s, false))
    ∧ (∀ pre x post, mask.isEmpty = false → s.queue = pre ++ x :: post → x.block = block →
        (∀ y ∈ pre ++ post, y.block ≠ block) →
        res.2 = true
        ∧ res.1.queue = pre ++ { x with mask := x.mask.union mask, attempts := max x.attempts attempts } :: post
        ∧ res.1.alerts.causes.queueFull = (s.alerts.causes.queueFull).setCondition (s.queue.length == 32)
        ∧ AlertsMoved [.queueFull] s res.1 ∧ (s.AlertsWf → res.1.alerts = s.alerts) ∧ Keeps [.queue, .alerts] s res.1)
    ∧ (mask.isEmpty = false → (∀ y ∈ s.queue, y.block ≠ block) → s.queue.length < 32 →
        res.2 = true
        ∧ res.1.queue = s.queue ++ [{ block := block, mask := mask, attempts := attempts }]
        ∧ res.1.alerts.causes.queueFull = (s.alerts.causes.queueFull).setCondition (res.1.queue.length == 32)
        ∧ AlertsMoved [.queueFull] s res.1 ∧ Keeps [.queue, .alerts] s res.1)
    ∧ (mask.isEmpty = false → (∀ y ∈ s.queue, y.block ≠ block) → 32 ≤ s.queue.length → res = (s, false))

/-- The moves of causes (R178, R180, R182): an edge cause is set by its event; a level cause moves between CLEAR, ACTIVE, ACKNOWLEDGED
and HELD by its condition and its acknowledge; HEALTH_r takes the entry and leave of SUSPECT by its mode, and keeps the suspect
condition in every mode. -/
def Obligations.CausesMoveByTheirTables : Prop :=
  let clear : CauseState := { latch := false, condition := false, acked := false }
  let active : CauseState := { latch := true, condition := true, acked := false }
  let acknowledged : CauseState := { latch := true, condition := true, acked := true }
  let held : CauseState := { latch := true, condition := false, acked := false }
  (∀ c : CauseState, c.event.latch = true ∧ c.edgeAck.latch = false)
  ∧ (clear.setCondition true = active ∧ held.setCondition true = active ∧ active.setCondition false = held
      ∧ acknowledged.setCondition false = clear)
  ∧ (clear.levelAck = clear ∧ active.levelAck = acknowledged ∧ acknowledged.levelAck = acknowledged ∧ held.levelAck = clear)
  ∧ (∀ c : CauseState, c.suspectEntry .level = c.setCondition true ∧ c.suspectLeave .level = c.setCondition false
      ∧ (c.suspectEntry .edge).latch = true ∧ (c.suspectLeave .edge).latch = true
      ∧ (c.suspectEntry .entry).latch = true ∧ (c.suspectLeave .entry).latch = c.latch
      ∧ (∀ m, (c.suspectEntry m).condition = true ∧ (c.suspectLeave m).condition = false))

/-- A charge (R2, R3, R4, R5): discarded by a replica that does not vote; else the score rises by the weight, limited at 1023, a
HEALTHY account that reaches SUSPECT_AT enters SUSPECT with its entry event, and a SUSPECT one at or above RETIRE_AT is retired with
reason SCORE when AUTO_RETIRE is on and three replicas vote: its SUSPECT entry event comes first where it has just entered SUSPECT, then
the retirement with its leave event and every consequence that RetirementReachesEveryBlock states. -/
def Obligations.ChargeRaisesScoreAndTests : Prop :=
  ∀ (s : State) (r : Replica) (kind : ChargeKind),
    let a := s.account r
    let t := s.charge r kind
    let score := min (a.score + kind.weight) 1023
    let suspects := a.state = .suspect ∨ s.health.thresholds.suspectAt ≤ score
    let retires := suspects ∧ s.health.thresholds.retireAt ≤ score ∧ s.health.thresholds.autoRetire = true
      ∧ s.votingCount = 3
    (a.votes = false → t = s)
    ∧ (a.votes = true → ¬suspects →
        t.account r = { a with score := score } ∧ t.alerts = s.alerts ∧ Keeps [.health] s t)
    ∧ (a.votes = true → suspects → ¬retires →
        t.account r = { a with score := score, state := .suspect }
        ∧ (a.state = .healthy → t.alerts.causes.get (.health r) = (s.alerts.causes.get (.health r)).suspectEntry a.alertMode)
        ∧ (a.state = .suspect → t.alerts = s.alerts)
        ∧ AlertsMoved [.health r] s t ∧ Keeps [.health, .alerts] s t)
    ∧ (a.votes = true → retires →
        t.account r = { a with score := score, state := .retired, reason := .score }
        ∧ t.alerts.causes.retire.latch = true ∧ t.alerts.causes.degraded.condition = true
        ∧ ∃ v : State, v.account r = { a with score := score, state := .suspect }
          ∧ (a.state = .healthy →
              v.alerts.causes.get (.health r) = (s.alerts.causes.get (.health r)).suspectEntry a.alertMode)
          ∧ (a.state = .suspect → v.alerts = s.alerts)
          ∧ AlertsMoved [.health r] s v ∧ Keeps [.health, .alerts] s v
          ∧ t = v.retireCore r .score
          ∧ t.alerts.causes.get (.health r) = (v.alerts.causes.get (.health r)).suspectLeave a.alertMode)
    ∧ (∀ q, q ≠ r → t.account q = s.account q) ∧ t.health.thresholds = s.health.thresholds
    ∧ t.health.decayTimer = s.health.decayTimer ∧ t.health.decayInterval = s.health.decayInterval
    ∧ ChargeKind.miscompare.weight = 4 ∧ ChargeKind.readError.weight = 8 ∧ ChargeKind.writeMissed.weight = 8
    ∧ ChargeKind.timeout.weight = 16 ∧ ChargeKind.repairFailed.weight = 32

/-- A retirement reaches every block (R14): the replica no longer votes, with its leave event when it was SUSPECT; RETIRE is latched and
DEGRADED true. A READY port begins an abort, any other is left as it is, and the ops in its list are handed to their owners as LOST
(R97). The active repair takes the replica out of its mask in CLAIM and READ and out of its sources in CLAIM (R124). Every queue mask
loses the replica, an entry whose mask empties leaves, and every other entry keeps its block, attempts and place (R111). When nobody
votes any more a copy in progress ends with ABORTED_SOURCES (R159). A draining hold that the abort ends gives its block on as
FreedBlocksGoToClaimsThenRequests states: a request may become READY or WAITING, and an engine's claim may be granted. -/
def Obligations.RetirementReachesEveryBlock : Prop :=
  ∀ (s : State) (r : Replica) (reason : RetireReason), (s.account r).votes = true →
    let t := s.retireCore r reason
    let inList (o : Owner) : Prop := (s.port r).state = .ready ∧ ∃ x ∈ (s.port r).list, x.op.owner = o ∧ x.ownerGone = false
    t.account r = { s.account r with state := .retired, reason := reason }
    ∧ (∀ q, q ≠ r → t.account q = s.account q)
    ∧ t.health.thresholds = s.health.thresholds ∧ t.health.decayTimer = s.health.decayTimer
    ∧ t.health.decayInterval = s.health.decayInterval
    ∧ ((s.account r).state = .suspect → t.alerts.causes.get (.health r) =
        (s.alerts.causes.get (.health r)).suspectLeave (s.account r).alertMode)
    ∧ ((s.account r).state = .healthy → t.alerts.causes.get (.health r) = s.alerts.causes.get (.health r))
    ∧ t.alerts.causes.retire = { s.alerts.causes.retire with latch := true }
    ∧ t.alerts.causes.degraded = (s.alerts.causes.degraded).setCondition true ∧ t.alerts.causes.degraded.condition = true
    ∧ t.alerts.causes.queueFull = (s.alerts.causes.queueFull).setCondition (t.queue.length == 32)
    ∧ AlertsMoved [.health r, .retire, .degraded, .queueFull] s t
    ∧ ((s.port r).state = .ready →
        t.port r = { s.port r with state := .aborting, list := [], abortLimit := some 16, abort := true })
    ∧ ((s.port r).state ≠ .ready → t.port r = s.port r)
    ∧ (∀ q, q ≠ r → t.port q = s.port q) ∧ t.ports.replyTimeout = s.ports.replyTimeout ∧ t.ports.runCount = s.ports.runCount
    ∧ RequestsKept (fun i q => q = r ∧ (s.port r).state = .ready ∧ ∃ x ∈ (s.port r).list, x.op.owner = .slot i) s t
    ∧ t.rt.acceptOrder = s.rt.acceptOrder ∧ t.rt.answerOrder = s.rt.answerOrder ∧ t.rt.channel = s.rt.channel
    ∧ t.rt.holding = s.rt.holding
    ∧ (s.EnginesWf → ∀ e answers, s.engineOp e = .out answers →
        (inList (.engine e) → answers.get r = some .pending → t.engineOp e = .out (answers.set r (some .lost)))
        ∧ (¬inList (.engine e) ∨ answers.get r ≠ some .pending → t.engineOp e = .out answers))
    ∧ (let before := s.repair
       t.repair =
        { before with
          phase := t.repair.phase
          op := t.repair.op
          mask := if before.phase = .claim ∨ before.phase = .read then before.mask.set r false else before.mask
          sources := if before.phase = .claim then before.sources.set r false else before.sources })
    ∧ t.queue = s.queue.filterMap (fun e =>
        let mask := e.mask.set r false
        if mask.a = false ∧ mask.b = false ∧ mask.c = false then none else some { e with mask := mask })
    ∧ t.copy = { s.copy with step := t.copy.step, op := t.copy.op }
    ∧ t.records = s.records ∧ t.regions = s.regions ∧ t.session = s.session ∧ t.pins = s.pins
    ∧ t.freeIndex = s.freeIndex ∧ t.pending = s.pending
    ∧ (s.votingCount ≠ 1 ∨ s.copy.state = .idle → s.retire r reason = t)
    ∧ (s.votingCount = 1 → s.copy.state ≠ .idle → s.retire r reason = t.copyEnd .abortedSources)

/-- COPY_ABORT (R142, R158): refused in IDLE, else the operation ends with ABORTED_COMMAND. Every end of a copy (R157): the context is
IDLE with its outcome and keeps its other fields, its claim is withdrawn and its lock released, its entries are marked owner gone, a
fill's mark is cleared, a rebuild that did not complete returns its target to RETIRED, one that completed joins it to the voting
set, with the SUSPECT entry event when blocks were skipped (R17), a repair in progress has no rebuild target any more (R125), and COPY_DONE is latched. -/
def Obligations.CopyAbortEndsTheCopy : Prop :=
  (∀ (s : State) (tag : Tag) (v : Word), s.apertureReady tag = true →
    (s.copy.state = .idle → ∃ t : State,
      exec (.copyAbort tag v) s = .next t.settle ∧ WriteRefused tag 43 .refusedState s t)
    ∧ (s.copy.state ≠ .idle → ∃ u t : State,
        exec (.copyAbort tag v) s = .next t.settle ∧ WriteTaken tag 43 .done s u t
        ∧ u = s.copyEnd .abortedCommand ∧ u.copy.state = .idle ∧ u.copy.outcome = .abortedCommand))
  ∧ (∀ (s : State) (outcome : CopyOutcome),
    let t := s.copyEnd outcome
    t.copy = { s.copy with state := .idle, step := .none, outcome := outcome, op := .none }
    ∧ (t.lock .copy).held = none ∧ (t.lock .copy).claim = none ∧ t.repair.target = none
    ∧ (∀ r, ∀ x ∈ (t.port r).list, x.op.owner = .engine .copy → x.ownerGone = true)
    ∧ (∀ n, s.copy.kind = .fill n → t.regions = { s.regions with fillMark := none } ∧ t.health = s.health)
    ∧ (∀ r, s.copy.kind = .rebuild r → outcome ≠ .completed →
        t.account r = { s.account r with state := .retired, reason := .rebuildFailed }
        ∧ t.alerts.causes.retire.latch = true)
    ∧ (∀ r, s.copy.kind = .rebuild r → outcome = .completed → s.copy.skipCount = 0 →
        t.account r = { s.account r with state := .healthy, score := 0, reason := .none }
        ∧ t.alerts.causes.get (.health r) = s.alerts.causes.get (.health r))
    ∧ (∀ r, s.copy.kind = .rebuild r → outcome = .completed → s.copy.skipCount ≠ 0 →
        t.account r = { s.account r with state := .suspect, score := s.health.thresholds.suspectAt, reason := .none }
        ∧ t.alerts.causes.get (.health r) = (s.alerts.causes.get (.health r)).suspectEntry (s.account r).alertMode)
    ∧ (∀ r, s.copy.kind = .rebuild r → outcome = .completed →
        t.alerts.causes.degraded = (s.alerts.causes.degraded).setCondition (decide (t.votingCount < 3)))
    ∧ t.alerts.causes.copyDone.latch = true
    ∧ t.records = s.records ∧ t.session = s.session ∧ t.pins = s.pins)

/-- The policy of a block (R51, R52, R53), where enabled descriptors do not overlap (the invariant RegionsInvariantKept): that of the
enabled descriptor that covers it, else VOTE with DEFAULT_SCRUB; and whether it lies in the region named by the fill mark. -/
def Obligations.PolicyLookupFollowsDescriptors : Prop :=
  ∀ (s : State) (block : Nat), s.RegionsWf →
    let covers (n : RegionId) : Prop := s.regions.descriptors[n].enabled = true
      ∧ s.regions.descriptors[n].first ≤ block ∧ block ≤ s.regions.descriptors[n].last
    let p := s.regions.lookup block
    (∀ n, covers n → p.mode = s.regions.descriptors[n].mode ∧ p.scrub = s.regions.descriptors[n].scrub)
    ∧ ((∀ n, ¬covers n) → p.mode = .vote ∧ p.scrub = s.regions.defaultScrub)
    ∧ (p.filling = true ↔ ∃ n, s.regions.fillMark = some n ∧ covers n)

/-- What reads of the aperture words show (R196, R204 and the tables of section 11.6): every field of every word of read access at its
bits, each modulo its width, and 0 at every bit of no field. Fields the spec gives no value for read 0: the active repair's block
index in IDLE, where the record holds 0 (log 32), the region or target of COPY with kind NONE (log 33), the pending base of
APERTURE with none present (log 34), and the head block index of QUEUE at depth 0 (log 35). The timer of KNOCK is the one before or after the restart of the read itself (log 7). -/
def Obligations.ReadWordsShowTheirFields : Prop :=
  ∀ s : State,
    Lays (s.readWord 0)
      [(0, 16, 0x0364), (16, 8, 1), (24, 2, s.pins.straps.span.toNat), (26, 1, s.pins.straps.present.a.toNat),
       (27, 1, s.pins.straps.present.b.toNat), (28, 1, s.pins.straps.present.c.toNat), (29, 1, s.pins.straps.knockEn.toNat)]
    ∧ Lays (s.readWord 1)
      [(0, 2, s.session.state.code), (2, 1, (s.account .a).votes.toNat), (3, 1, (s.account .b).votes.toNat),
       (4, 1, (s.account .c).votes.toNat), (5, 2, s.copy.kind.code), (7, 2, s.copy.state.code), (9, 3, s.scrub.state.code),
       (12, 6, s.queue.length), (18, 5, s.records.list.length)]
    ∧ (∀ r : Replica, Lays (s.readWord (2 + r.number))
        [(0, 2, (s.account r).state.code), (2, 3, (s.account r).reason.code), (5, 10, (s.account r).score),
         (15, 2, (s.port r).state.code), (17, 2, (s.account r).alertMode.code)])
    ∧ (let copy (operand last : Nat) : List (Nat × Nat × Nat) :=
        [(0, 2, s.copy.kind.code), (2, 2, s.copy.state.code), (4, 3, s.copy.outcome.code), (7, 3, operand),
         (10, 25, s.copy.pointer), (35, 25, last)]
       (s.copy.kind = .none → Lays (s.readWord 5) (copy 0 s.copy.endBlock))
        ∧ (∀ n, s.copy.kind = .fill n → Lays (s.readWord 5) (copy n.val s.copy.endBlock))
        ∧ (∀ r, s.copy.kind = .rebuild r → Lays (s.readWord 5) (copy r.number s.copy.skipCount)))
    ∧ (let queue (present block : Nat) : List (Nat × Nat × Nat) :=
        [(0, 6, s.queue.length), (6, 1, present), (7, 24, block), (31, 3, s.repair.phase.code), (34, 24, s.repair.block)]
       (s.queue = [] → Lays (s.readWord 6) (queue 0 0))
        ∧ (∀ head rest, s.queue = head :: rest → Lays (s.readWord 6) (queue 1 head.block)))
    ∧ Lays (s.readWord 7)
      [(0, 3, s.scrub.state.code), (3, 2, s.scrub.reason.code), (5, 24, s.scrub.pointer), (29, 16, s.scrub.passCount)]
    ∧ (s.records.list = [] → s.readWord 8 = 0)
    ∧ (∀ x rest, s.records.list = x :: rest → Lays (s.readWord 8)
        [(0, 16, x.sequence), (16, 3, x.kind.code), (19, 3, x.origin.code), (22, 3, x.word.getD 0), (25, 1, x.word.isSome.toNat),
         (26, 1, x.mask.a.toNat), (27, 1, x.mask.b.toNat), (28, 1, x.mask.c.toNat), (29, 8, x.repeats),
         (37, 1, x.queued.toNat), (38, 24, x.block), (63, 1, 1)])
    ∧ Lays (s.readWord 10) [(0, 5, s.records.list.length), (5, 8, s.records.lost), (13, 16, s.records.nextSeq)]
    ∧ (let causes (on : Cause → Bool) : List (Nat × Nat × Nat) :=
        [(0, 1, (on (.health .a)).toNat), (1, 1, (on (.health .b)).toNat), (2, 1, (on (.health .c)).toNat),
         (3, 1, (on .retire).toNat), (4, 1, (on .dataLoss).toNat), (5, 1, (on .queueFull).toNat), (6, 1, (on .degraded).toNat),
         (7, 1, (on .recordsLost).toNat), (8, 1, (on .copyDone).toNat), (9, 1, (on .sessionExpired).toNat)]
       Lays (s.readWord 11) (causes fun c => (s.alerts.causes.get c).latch)
        ∧ Lays (s.readWord 13) (causes fun c => s.alerts.enable.get c))
    ∧ Lays (s.readWord 15) [(0, 6, s.session.resultWord), (6, 3, s.session.resultOutcome.code)]
    ∧ (∀ k : Fin 4, s.readWord (16 + k.val) = s.session.stages[k])
    ∧ Lays (s.readWord 20)
      [(0, 10, s.health.thresholds.suspectAt), (10, 10, s.health.thresholds.clearAt), (20, 10, s.health.thresholds.retireAt),
       (30, 1, s.health.thresholds.autoRetire.toNat)]
    ∧ Lays (s.readWord 21)
      [(0, 6, s.ports.replyTimeout), (6, 16, s.scrub.interval), (22, 1, s.scrub.on.toNat), (23, 1, s.regions.defaultScrub.toNat)]
    ∧ Lays (s.readWord 22)
      [(0, 16, s.health.decayInterval), (16, 16, s.session.sessionIdle), (32, 2, (s.account .a).alertMode.code),
       (34, 2, (s.account .b).alertMode.code), (36, 2, (s.account .c).alertMode.code)]
    ∧ (s.session.pendingBase = none → Lays (s.readWord 23) [(0, 30, s.session.base), (30, 30, 0), (60, 1, 0)])
    ∧ (∀ b, s.session.pendingBase = some b → Lays (s.readWord 23) [(0, 30, s.session.base), (30, 30, b), (60, 1, 1)])
    ∧ (∀ n : RegionId, let d := s.regions.descriptors[n]
        Lays (s.readWord (24 + 2 * n.val)) [(0, 24, d.first), (24, 24, d.last)]
        ∧ Lays (s.readWord (25 + 2 * n.val))
          [(0, 1, d.enabled.toNat), (1, 1, d.mode.code), (2, 1, d.scrub.toNat), (3, 1, (s.regions.fillMark == some n).toNat)])
    ∧ (∃ timer : Option Nat,
        (timer = s.session.idleTimer
          ∨ timer = if s.session.sessionIdle = 0 then none else some s.session.sessionIdle)
        ∧ Lays (s.readWord 63) [(0, 2, s.session.state.code), (2, 16, timer.getD 0)])
    ∧ [SessionState.closed, .armed, .opened].map SessionState.code = [0, 1, 2]
    ∧ [AccountState.healthy, .suspect, .retired, .rebuilding].map AccountState.code = [0, 1, 2, 3]
    ∧ [RetireReason.none, .command, .score, .portDead, .absent, .rebuildFailed].map RetireReason.code = [0, 1, 2, 3, 4, 5]
    ∧ [PortState.off, .ready, .aborting].map PortState.code = [0, 1, 2]
    ∧ [AlertMode.level, .edge, .entry].map AlertMode.code = [0, 1, 2]
    ∧ (∀ n r, [CopyKind.none, .fill n, .rebuild r].map CopyKind.code = [0, 1, 2])
    ∧ [CopyState.idle, .starting, .running].map CopyState.code = [0, 1, 2]
    ∧ [CopyOutcome.none, .completed, .abortedCommand, .abortedTarget, .abortedSources, .abortedReset].map CopyOutcome.code
        = [0, 1, 2, 3, 4, 5]
    ∧ [RepairPhase.idle, .claim, .read, .write, .verify].map RepairPhase.code = [0, 1, 2, 3, 4]
    ∧ [WalkerState.off, .waiting, .claiming, .reading, .paused].map WalkerState.code = [0, 1, 2, 3, 4]
    ∧ [PauseReason.none, .queueHigh, .fewReplicas, .noBlocks].map PauseReason.code = [0, 1, 2, 3]
    ∧ [ResultOutcome.none, .done, .busy, .refusedState, .refusedArgument, .stale].map ResultOutcome.code = [0, 1, 2, 3, 4, 5]
    ∧ [RecordKind.miscompare, .divergent, .readError, .writeMissed, .timeout, .repairFailed, .repairAbandoned,
        .rebuildSkipped].map RecordKind.code = [0, 1, 2, 3, 4, 5, 6, 7]
    ∧ [Origin.upstreamRead, .upstreamWrite, .scrub, .repair, .fill, .rebuild].map Origin.code = [0, 1, 2, 3, 4, 5]
    ∧ [ReadMode.vote, .fast].map ReadMode.code = [0, 1]

/-! ## Invariants every step keeps -/

/-- The fault record list: at most 16 records, none with the same block and kind, consecutive sequences, non-empty masks, repeat counts
from 1 to 255, a word index exactly where the kind has one (R162, R163, R165). -/
def Obligations.RecordListInvariantKept : Prop :=
  ∀ s t : State, s.records.Wf → step s = .next t → t.records.Wf

/-- The repair queue: at most 32 entries, one for a block, non-empty masks of voting replicas, at most 2 attempts (R107, R108, R111). -/
def Obligations.RepairQueueInvariantKept : Prop :=
  ∀ s t : State, s.QueueWf → step s = .next t → t.QueueWf

/-- The alert unit: ALERT_N is asserted exactly while a cause is latched and enabled and RESET_N is released, QUEUE_FULL's and DEGRADED's
conditions are true exactly while the queue is full and fewer than three replicas vote, and a true one is latched (R179, R180,
R186). -/
def Obligations.AlertUnitInvariantKept : Prop :=
  ∀ s t : State, s.AlertsWf → step s = .next t → t.AlertsWf

/-- The accounts: scores from 0 to 1023, a HEALTHY score below SUSPECT_AT, a SUSPECT score above CLEAR_AT, ordered thresholds, a decay
interval in its range (R1, R2, R7, R9). -/
def Obligations.HealthInvariantKept : Prop :=
  ∀ s t : State, s.health.Wf → step s = .next t → t.health.Wf

/-- The control session: the base and the pending base stand as R189 says, the idle timer runs only in OPEN, and with KNOCK_EN low the
session is CLOSED (R190, R192, R205). -/
def Obligations.SessionInvariantKept : Prop :=
  ∀ s t : State, s.SessionWf → step s = .next t → t.SessionWf

/-- The region table: enabled descriptors lie within the span and never overlap, and the fill mark names an enabled one (R51, R55,
R58). -/
def Obligations.RegionsInvariantKept : Prop :=
  ∀ s t : State, s.RegionsWf → step s = .next t → t.RegionsWf

/-- A replica is REBUILDING exactly while the copy engine holds a REBUILD of it, in STARTING or RUNNING (R16). -/
def Obligations.RebuildInvariantKept : Prop :=
  ∀ s t : State, s.RebuildWf → step s = .next t → t.RebuildWf

/-- The ports: ops stand only in a READY port's list, a limit exactly on an ABORTING port, REPLY_TIMEOUT from 1 to 63, the run count at
most 16, the walker's interval and pass count in their ranges (R86, R92, R96, R104, R129, R130). -/
def Obligations.PortsInvariantKept : Prop :=
  ∀ s t : State, s.PortsWf → step s = .next t → t.PortsWf

/-- The block lock set and the engines (R39, R103, R114, R129, R140): no two engines hold one block, an engine claims only in its claiming
phase and with no lock, holds a lock only in its working phases, has an op only under a lock, and a pending scrub claim is on a
block that nobody else holds and no draining hold covers (R41). On the states that this and PortsInvariantKept allow, every step also
keeps what locks, draining holds and the engines' entries in the issue lists have to do with each other (R39, R42, R91, R103): a live
entry is for the block its engine holds, one marked owner gone for the block of its engine's draining hold, never both, never two in
one list, and no held block is draining. -/
def Obligations.EnginesInvariantKept : Prop :=
  ∀ s t : State, s.EnginesWf → step s = .next t → t.EnginesWf ∧ (s.PortsWf → s.HoldsWf → t.HoldsWf)
end

