-- ==== Sys2Proof/Laws/State.lean ====
section
/-! SUPPORT. One lemma for each field of State and each shared update, true by unfolding; and what the accessors give after their
own updates. -/

namespace Sys2Proof

/-! ## One thing for each replica -/

@[simp] theorem Tri.get_ofFn {α : Type} (f : Replica → α) (r : Replica) : (Tri.ofFn f).get r = f r := by cases r <;> rfl

@[simp] theorem Tri.get_set_self {α : Type} (t : Tri α) (r : Replica) (v : α) : (t.set r v).get r = v := by cases r <;> rfl

theorem Tri.get_set_of_ne {α : Type} (t : Tri α) {r q : Replica} (v : α) (h : q ≠ r) : (t.set r v).get q = t.get q := by
  cases r <;> cases q <;> first | rfl | exact absurd rfl h

theorem Tri.get_set {α : Type} (t : Tri α) (r q : Replica) (v : α) :
    (t.set r v).get q = if q = r then v else t.get q := by
  by_cases h : q = r
  · subst h; simp
  · simp [h, Tri.get_set_of_ne t v h]

/-- Two of a kind are equal when they agree at each replica. -/
theorem Tri.ext_get {α : Type} {t u : Tri α} (h : ∀ r, t.get r = u.get r) : t = u := by
  cases t; cases u
  have ha := h .a; have hb := h .b; have hc := h .c
  simp only [Tri.get] at ha hb hc
  simp [ha, hb, hc]

theorem Tri.set_get_self {α : Type} (t : Tri α) (r : Replica) : t.set r (t.get r) = t := by cases r <;> rfl

@[simp] theorem Tri.get_inter (m n : Tri Bool) (r : Replica) : (m.inter n).get r = (m.get r && n.get r) := by
  simp [Tri.inter]

@[simp] theorem Tri.get_union (m n : Tri Bool) (r : Replica) : (m.union n).get r = (m.get r || n.get r) := by
  simp [Tri.union]

@[simp] theorem Tri.get_diff (m n : Tri Bool) (r : Replica) : (m.diff n).get r = (m.get r && !n.get r) := by
  simp [Tri.diff]

@[simp] theorem Tri.get_nobody (r : Replica) : Tri.nobody.get r = false := by cases r <;> rfl

theorem Tri.get_without (m : Tri Bool) (r q : Replica) : (m.without r).get q = (m.get q && decide (q ≠ r)) := by
  simp only [Tri.without, Tri.get_set]
  by_cases h : q = r <;> simp [h]

theorem Tri.get_only (r q : Replica) : (Tri.only r).get q = decide (q = r) := by cases r <;> cases q <;> rfl

theorem Tri.get_ofOption (o : Option Replica) (q : Replica) : (Tri.ofOption o).get q = decide (o = some q) := by
  cases o with
  | none => simp [Tri.ofOption]
  | some r => cases r <;> cases q <;> rfl

theorem Tri.isEmpty_iff (m : Tri Bool) : m.isEmpty = true ↔ ∀ r, m.get r = false := by
  constructor
  · intro h r
    cases m with
    | mk a b c => cases a <;> cases b <;> cases c <;> first | exact absurd h (by decide) | (cases r <;> rfl)
  · intro h
    have ha := h .a; have hb := h .b; have hc := h .c
    simp only [Tri.get] at ha hb hc
    simp [Tri.isEmpty, ha, hb, hc]

theorem Tri.isEmpty_eq_false_iff (m : Tri Bool) : m.isEmpty = false ↔ ∃ r, m.get r = true := by
  constructor
  · intro h
    by_contra hn
    push Not at hn
    have : m.isEmpty = true := (Tri.isEmpty_iff m).2 fun r => by simpa using hn r
    simp [this] at h
  · rintro ⟨r, hr⟩
    by_contra hn
    have := (Tri.isEmpty_iff m).1 (by simpa using hn) r
    simp [this] at hr

theorem Tri.isEmpty_only (r : Replica) : (Tri.only r).isEmpty = false := by cases r <;> rfl

/-- Every replica stands in the order A, B, C. -/
theorem Replica.mem_all (r : Replica) : r ∈ Replica.all := by cases r <;> decide

end Sys2Proof

namespace Sys2Proof.Machine

open Sys2Proof


/-! ## setAccount -/

@[simp] theorem State.setAccount_pins (r : Replica) (a : Account) (s : State) : (s.setAccount r a).pins = s.pins := rfl
@[simp] theorem State.setAccount_rt (r : Replica) (a : Account) (s : State) : (s.setAccount r a).rt = s.rt := rfl
@[simp] theorem State.setAccount_regions (r : Replica) (a : Account) (s : State) : (s.setAccount r a).regions = s.regions := rfl
@[simp] theorem State.setAccount_ports (r : Replica) (a : Account) (s : State) : (s.setAccount r a).ports = s.ports := rfl
@[simp] theorem State.setAccount_queue (r : Replica) (a : Account) (s : State) : (s.setAccount r a).queue = s.queue := rfl
@[simp] theorem State.setAccount_repair (r : Replica) (a : Account) (s : State) : (s.setAccount r a).repair = s.repair := rfl
@[simp] theorem State.setAccount_scrub (r : Replica) (a : Account) (s : State) : (s.setAccount r a).scrub = s.scrub := rfl
@[simp] theorem State.setAccount_copy (r : Replica) (a : Account) (s : State) : (s.setAccount r a).copy = s.copy := rfl
@[simp] theorem State.setAccount_records (r : Replica) (a : Account) (s : State) : (s.setAccount r a).records = s.records := rfl
@[simp] theorem State.setAccount_alerts (r : Replica) (a : Account) (s : State) : (s.setAccount r a).alerts = s.alerts := rfl
@[simp] theorem State.setAccount_session (r : Replica) (a : Account) (s : State) : (s.setAccount r a).session = s.session := rfl
@[simp] theorem State.setAccount_freeIndex (r : Replica) (a : Account) (s : State) : (s.setAccount r a).freeIndex = s.freeIndex := rfl
@[simp] theorem State.setAccount_pending (r : Replica) (a : Account) (s : State) : (s.setAccount r a).pending = s.pending := rfl

/-! ## setPort -/

@[simp] theorem State.setPort_pins (r : Replica) (p : Port) (s : State) : (s.setPort r p).pins = s.pins := rfl
@[simp] theorem State.setPort_health (r : Replica) (p : Port) (s : State) : (s.setPort r p).health = s.health := rfl
@[simp] theorem State.setPort_rt (r : Replica) (p : Port) (s : State) : (s.setPort r p).rt = s.rt := rfl
@[simp] theorem State.setPort_regions (r : Replica) (p : Port) (s : State) : (s.setPort r p).regions = s.regions := rfl
@[simp] theorem State.setPort_queue (r : Replica) (p : Port) (s : State) : (s.setPort r p).queue = s.queue := rfl
@[simp] theorem State.setPort_repair (r : Replica) (p : Port) (s : State) : (s.setPort r p).repair = s.repair := rfl
@[simp] theorem State.setPort_scrub (r : Replica) (p : Port) (s : State) : (s.setPort r p).scrub = s.scrub := rfl
@[simp] theorem State.setPort_copy (r : Replica) (p : Port) (s : State) : (s.setPort r p).copy = s.copy := rfl
@[simp] theorem State.setPort_records (r : Replica) (p : Port) (s : State) : (s.setPort r p).records = s.records := rfl
@[simp] theorem State.setPort_alerts (r : Replica) (p : Port) (s : State) : (s.setPort r p).alerts = s.alerts := rfl
@[simp] theorem State.setPort_session (r : Replica) (p : Port) (s : State) : (s.setPort r p).session = s.session := rfl
@[simp] theorem State.setPort_freeIndex (r : Replica) (p : Port) (s : State) : (s.setPort r p).freeIndex = s.freeIndex := rfl
@[simp] theorem State.setPort_pending (r : Replica) (p : Port) (s : State) : (s.setPort r p).pending = s.pending := rfl

/-! ## setSlot -/

@[simp] theorem State.setSlot_pins (i : SlotId) (x : Option Slot) (s : State) : (s.setSlot i x).pins = s.pins := rfl
@[simp] theorem State.setSlot_health (i : SlotId) (x : Option Slot) (s : State) : (s.setSlot i x).health = s.health := rfl
@[simp] theorem State.setSlot_regions (i : SlotId) (x : Option Slot) (s : State) : (s.setSlot i x).regions = s.regions := rfl
@[simp] theorem State.setSlot_ports (i : SlotId) (x : Option Slot) (s : State) : (s.setSlot i x).ports = s.ports := rfl
@[simp] theorem State.setSlot_queue (i : SlotId) (x : Option Slot) (s : State) : (s.setSlot i x).queue = s.queue := rfl
@[simp] theorem State.setSlot_repair (i : SlotId) (x : Option Slot) (s : State) : (s.setSlot i x).repair = s.repair := rfl
@[simp] theorem State.setSlot_scrub (i : SlotId) (x : Option Slot) (s : State) : (s.setSlot i x).scrub = s.scrub := rfl
@[simp] theorem State.setSlot_copy (i : SlotId) (x : Option Slot) (s : State) : (s.setSlot i x).copy = s.copy := rfl
@[simp] theorem State.setSlot_records (i : SlotId) (x : Option Slot) (s : State) : (s.setSlot i x).records = s.records := rfl
@[simp] theorem State.setSlot_alerts (i : SlotId) (x : Option Slot) (s : State) : (s.setSlot i x).alerts = s.alerts := rfl
@[simp] theorem State.setSlot_session (i : SlotId) (x : Option Slot) (s : State) : (s.setSlot i x).session = s.session := rfl
@[simp] theorem State.setSlot_freeIndex (i : SlotId) (x : Option Slot) (s : State) : (s.setSlot i x).freeIndex = s.freeIndex := rfl
@[simp] theorem State.setSlot_pending (i : SlotId) (x : Option Slot) (s : State) : (s.setSlot i x).pending = s.pending := rfl

/-! ## setLock -/

@[simp] theorem State.setLock_pins (e : Engine) (x : EngineLock) (s : State) : (s.setLock e x).pins = s.pins := rfl
@[simp] theorem State.setLock_health (e : Engine) (x : EngineLock) (s : State) : (s.setLock e x).health = s.health := rfl
@[simp] theorem State.setLock_regions (e : Engine) (x : EngineLock) (s : State) : (s.setLock e x).regions = s.regions := rfl
@[simp] theorem State.setLock_ports (e : Engine) (x : EngineLock) (s : State) : (s.setLock e x).ports = s.ports := rfl
@[simp] theorem State.setLock_queue (e : Engine) (x : EngineLock) (s : State) : (s.setLock e x).queue = s.queue := rfl
@[simp] theorem State.setLock_repair (e : Engine) (x : EngineLock) (s : State) : (s.setLock e x).repair = s.repair := rfl
@[simp] theorem State.setLock_scrub (e : Engine) (x : EngineLock) (s : State) : (s.setLock e x).scrub = s.scrub := rfl
@[simp] theorem State.setLock_copy (e : Engine) (x : EngineLock) (s : State) : (s.setLock e x).copy = s.copy := rfl
@[simp] theorem State.setLock_records (e : Engine) (x : EngineLock) (s : State) : (s.setLock e x).records = s.records := rfl
@[simp] theorem State.setLock_alerts (e : Engine) (x : EngineLock) (s : State) : (s.setLock e x).alerts = s.alerts := rfl
@[simp] theorem State.setLock_session (e : Engine) (x : EngineLock) (s : State) : (s.setLock e x).session = s.session := rfl
@[simp] theorem State.setLock_freeIndex (e : Engine) (x : EngineLock) (s : State) : (s.setLock e x).freeIndex = s.freeIndex := rfl
@[simp] theorem State.setLock_pending (e : Engine) (x : EngineLock) (s : State) : (s.setLock e x).pending = s.pending := rfl

/-! ## refreshLine -/

@[simp] theorem State.refreshLine_pins (s : State) : (s.refreshLine).pins = s.pins := rfl
@[simp] theorem State.refreshLine_health (s : State) : (s.refreshLine).health = s.health := rfl
@[simp] theorem State.refreshLine_rt (s : State) : (s.refreshLine).rt = s.rt := rfl
@[simp] theorem State.refreshLine_regions (s : State) : (s.refreshLine).regions = s.regions := rfl
@[simp] theorem State.refreshLine_ports (s : State) : (s.refreshLine).ports = s.ports := rfl
@[simp] theorem State.refreshLine_queue (s : State) : (s.refreshLine).queue = s.queue := rfl
@[simp] theorem State.refreshLine_repair (s : State) : (s.refreshLine).repair = s.repair := rfl
@[simp] theorem State.refreshLine_scrub (s : State) : (s.refreshLine).scrub = s.scrub := rfl
@[simp] theorem State.refreshLine_copy (s : State) : (s.refreshLine).copy = s.copy := rfl
@[simp] theorem State.refreshLine_records (s : State) : (s.refreshLine).records = s.records := rfl
@[simp] theorem State.refreshLine_session (s : State) : (s.refreshLine).session = s.session := rfl
@[simp] theorem State.refreshLine_freeIndex (s : State) : (s.refreshLine).freeIndex = s.freeIndex := rfl
@[simp] theorem State.refreshLine_pending (s : State) : (s.refreshLine).pending = s.pending := rfl

/-! ## updateCause -/

@[simp] theorem State.updateCause_pins (c : Cause) (f : CauseState → CauseState) (s : State) : (s.updateCause c f).pins = s.pins := rfl
@[simp] theorem State.updateCause_health (c : Cause) (f : CauseState → CauseState) (s : State) : (s.updateCause c f).health = s.health := rfl
@[simp] theorem State.updateCause_rt (c : Cause) (f : CauseState → CauseState) (s : State) : (s.updateCause c f).rt = s.rt := rfl
@[simp] theorem State.updateCause_regions (c : Cause) (f : CauseState → CauseState) (s : State) : (s.updateCause c f).regions = s.regions := rfl
@[simp] theorem State.updateCause_ports (c : Cause) (f : CauseState → CauseState) (s : State) : (s.updateCause c f).ports = s.ports := rfl
@[simp] theorem State.updateCause_queue (c : Cause) (f : CauseState → CauseState) (s : State) : (s.updateCause c f).queue = s.queue := rfl
@[simp] theorem State.updateCause_repair (c : Cause) (f : CauseState → CauseState) (s : State) : (s.updateCause c f).repair = s.repair := rfl
@[simp] theorem State.updateCause_scrub (c : Cause) (f : CauseState → CauseState) (s : State) : (s.updateCause c f).scrub = s.scrub := rfl
@[simp] theorem State.updateCause_copy (c : Cause) (f : CauseState → CauseState) (s : State) : (s.updateCause c f).copy = s.copy := rfl
@[simp] theorem State.updateCause_records (c : Cause) (f : CauseState → CauseState) (s : State) : (s.updateCause c f).records = s.records := rfl
@[simp] theorem State.updateCause_session (c : Cause) (f : CauseState → CauseState) (s : State) : (s.updateCause c f).session = s.session := rfl
@[simp] theorem State.updateCause_freeIndex (c : Cause) (f : CauseState → CauseState) (s : State) : (s.updateCause c f).freeIndex = s.freeIndex := rfl
@[simp] theorem State.updateCause_pending (c : Cause) (f : CauseState → CauseState) (s : State) : (s.updateCause c f).pending = s.pending := rfl

/-! ## withPending -/

@[simp] theorem State.withPending_pins (q : List Instr) (s : State) : (s.withPending q).pins = s.pins := rfl
@[simp] theorem State.withPending_health (q : List Instr) (s : State) : (s.withPending q).health = s.health := rfl
@[simp] theorem State.withPending_rt (q : List Instr) (s : State) : (s.withPending q).rt = s.rt := rfl
@[simp] theorem State.withPending_regions (q : List Instr) (s : State) : (s.withPending q).regions = s.regions := rfl
@[simp] theorem State.withPending_ports (q : List Instr) (s : State) : (s.withPending q).ports = s.ports := rfl
@[simp] theorem State.withPending_queue (q : List Instr) (s : State) : (s.withPending q).queue = s.queue := rfl
@[simp] theorem State.withPending_repair (q : List Instr) (s : State) : (s.withPending q).repair = s.repair := rfl
@[simp] theorem State.withPending_scrub (q : List Instr) (s : State) : (s.withPending q).scrub = s.scrub := rfl
@[simp] theorem State.withPending_copy (q : List Instr) (s : State) : (s.withPending q).copy = s.copy := rfl
@[simp] theorem State.withPending_records (q : List Instr) (s : State) : (s.withPending q).records = s.records := rfl
@[simp] theorem State.withPending_alerts (q : List Instr) (s : State) : (s.withPending q).alerts = s.alerts := rfl
@[simp] theorem State.withPending_session (q : List Instr) (s : State) : (s.withPending q).session = s.session := rfl
@[simp] theorem State.withPending_freeIndex (q : List Instr) (s : State) : (s.withPending q).freeIndex = s.freeIndex := rfl

/-! ## advance -/

@[simp] theorem State.advance_pins (n : Nat) (s : State) : (s.advance n).pins = s.pins := rfl
@[simp] theorem State.advance_rt (n : Nat) (s : State) : (s.advance n).rt = s.rt := rfl
@[simp] theorem State.advance_regions (n : Nat) (s : State) : (s.advance n).regions = s.regions := rfl
@[simp] theorem State.advance_queue (n : Nat) (s : State) : (s.advance n).queue = s.queue := rfl
@[simp] theorem State.advance_repair (n : Nat) (s : State) : (s.advance n).repair = s.repair := rfl
@[simp] theorem State.advance_copy (n : Nat) (s : State) : (s.advance n).copy = s.copy := rfl
@[simp] theorem State.advance_records (n : Nat) (s : State) : (s.advance n).records = s.records := rfl
@[simp] theorem State.advance_alerts (n : Nat) (s : State) : (s.advance n).alerts = s.alerts := rfl
@[simp] theorem State.advance_freeIndex (n : Nat) (s : State) : (s.advance n).freeIndex = s.freeIndex := rfl
@[simp] theorem State.advance_pending (n : Nat) (s : State) : (s.advance n).pending = s.pending := rfl

/-! ## setEngineOp -/

theorem State.setEngineOp_keeps (e : Engine) (x : OpStage) (s : State) :
    Keeps [.repair, .scrub, .copy] s (s.setEngineOp e x) := by
  intro p hp
  cases e <;> cases p <;> first | rfl | exact absurd hp (by decide)

/-! ## Accessors after their own updates -/

@[simp] theorem State.account_setAccount_self (r : Replica) (a : Account) (s : State) : (s.setAccount r a).account r = a := by
  simp [State.account, State.setAccount]

theorem State.account_setAccount (r q : Replica) (a : Account) (s : State) :
    (s.setAccount r a).account q = if q = r then a else s.account q := by
  simp [State.account, State.setAccount, Tri.get_set]

@[simp] theorem State.setAccount_thresholds (r : Replica) (a : Account) (s : State) :
    (s.setAccount r a).health.thresholds = s.health.thresholds := rfl

@[simp] theorem State.setAccount_decayInterval (r : Replica) (a : Account) (s : State) :
    (s.setAccount r a).health.decayInterval = s.health.decayInterval := rfl

@[simp] theorem State.setAccount_decayTimer (r : Replica) (a : Account) (s : State) :
    (s.setAccount r a).health.decayTimer = s.health.decayTimer := rfl

@[simp] theorem State.port_setPort_self (r : Replica) (p : Port) (s : State) : (s.setPort r p).port r = p := by
  simp [State.port, State.setPort]

theorem State.port_setPort (r q : Replica) (p : Port) (s : State) :
    (s.setPort r p).port q = if q = r then p else s.port q := by
  simp [State.port, State.setPort, Tri.get_set]

@[simp] theorem State.setPort_replyTimeout (r : Replica) (p : Port) (s : State) :
    (s.setPort r p).ports.replyTimeout = s.ports.replyTimeout := rfl

@[simp] theorem State.setPort_runCount (r : Replica) (p : Port) (s : State) :
    (s.setPort r p).ports.runCount = s.ports.runCount := rfl

theorem State.slot_setSlot (i j : SlotId) (x : Option Slot) (s : State) :
    (s.setSlot i x).slot j = if j = i then x else s.slot j := by
  simp only [State.slot, State.setSlot, Fin.getElem_fin, Vector.getElem_set]
  by_cases h : j = i
  · subst h; simp
  · have : i.val ≠ j.val := fun hv => h (Fin.ext hv.symm)
    simp [h, this]

@[simp] theorem State.slot_setSlot_self (i : SlotId) (x : Option Slot) (s : State) : (s.setSlot i x).slot i = x := by
  simp [State.slot_setSlot]

@[simp] theorem State.setSlot_holding (i : SlotId) (x : Option Slot) (s : State) :
    (s.setSlot i x).rt.holding = s.rt.holding := rfl

@[simp] theorem State.setSlot_acceptOrder (i : SlotId) (x : Option Slot) (s : State) :
    (s.setSlot i x).rt.acceptOrder = s.rt.acceptOrder := rfl

@[simp] theorem State.setSlot_answerOrder (i : SlotId) (x : Option Slot) (s : State) :
    (s.setSlot i x).rt.answerOrder = s.rt.answerOrder := rfl

@[simp] theorem State.setSlot_channel (i : SlotId) (x : Option Slot) (s : State) :
    (s.setSlot i x).rt.channel = s.rt.channel := rfl

@[simp] theorem State.setSlot_locks (i : SlotId) (x : Option Slot) (s : State) :
    (s.setSlot i x).rt.locks = s.rt.locks := rfl

@[simp] theorem State.lock_setSlot (i : SlotId) (x : Option Slot) (s : State) (e : Engine) :
    (s.setSlot i x).lock e = s.lock e := rfl

theorem Locks.get_set (l : Locks) (e e' : Engine) (x : EngineLock) :
    (l.set e x).get e' = if e' = e then x else l.get e' := by
  cases e <;> cases e' <;> rfl

theorem State.lock_setLock (e e' : Engine) (x : EngineLock) (s : State) :
    (s.setLock e x).lock e' = if e' = e then x else s.lock e' := by
  simp [State.lock, State.setLock, Locks.get_set]

@[simp] theorem State.lock_setLock_self (e : Engine) (x : EngineLock) (s : State) : (s.setLock e x).lock e = x := by
  simp [State.lock_setLock]

@[simp] theorem State.slot_setLock (e : Engine) (x : EngineLock) (s : State) (i : SlotId) :
    (s.setLock e x).slot i = s.slot i := rfl

@[simp] theorem State.setLock_rt (e : Engine) (x : EngineLock) (s : State) :
    (s.setLock e x).rt = { s.rt with locks := s.rt.locks.set e x } := rfl

theorem State.engineOp_setEngineOp (e e' : Engine) (x : OpStage) (s : State) :
    (s.setEngineOp e x).engineOp e' = if e' = e then x else s.engineOp e' := by
  cases e <;> cases e' <;> rfl

theorem State.voting_get (s : State) (r : Replica) : s.voting.get r = (s.account r).votes := by simp [State.voting]

/-- The voting set depends on the states of the accounts alone. -/
theorem State.voting_congr {s t : State} (h : ∀ r, (t.account r).votes = (s.account r).votes) : t.voting = s.voting :=
  Tri.ext_get fun r => by simp [State.voting_get, h]

theorem mapVector_getElem {α : Type} {n : Nat} (f : α → α) (v : Vector α n) (i : Nat) (h : i < n) :
    (mapVector f v)[i] = f v[i] := by
  simp [mapVector]

end Sys2Proof.Machine
end

