-- ==== Sys2Proof/Laws/Frame.lean ====
section
/-! SUPPORT. The frame Keeps as an algebra, and the alert unit: what one change of a cause leaves, and AlertsMoved as an algebra. -/

namespace Sys2Proof.Machine

open Sys2Proof

/-! ## Keeps -/

theorem Part.same_refl (p : Part) (s : State) : p.same s s := by cases p <;> rfl

theorem Part.same_trans {p : Part} {s t u : State} (h : p.same s t) (h' : p.same t u) : p.same s u := by
  cases p <;> exact Eq.trans h' h

theorem Keeps.refl (L : List Part) (s : State) : Keeps L s s := fun p _ => p.same_refl s

theorem Keeps.mono {L M : List Part} {s t : State} (h : Keeps L s t) (hLM : L ⊆ M) : Keeps M s t :=
  fun p hp => h p fun hl => hp (hLM hl)

theorem Keeps.trans {L : List Part} {s t u : State} (h : Keeps L s t) (h' : Keeps L t u) : Keeps L s u :=
  fun p hp => Part.same_trans (h p hp) (h' p hp)

/-- Two steps with frames of their own keep what neither changes. -/
theorem Keeps.comp {L M : List Part} {s t u : State} (h : Keeps L s t) (h' : Keeps M t u) : Keeps (L ++ M) s u :=
  (h.mono (List.subset_append_left L M)).trans (h'.mono (List.subset_append_right L M))

section Projections

variable {L : List Part} {s t : State} (h : Keeps L s t)
include h

theorem Keeps.pins (hp : Part.pins ∉ L) : t.pins = s.pins := h _ hp
theorem Keeps.health (hp : Part.health ∉ L) : t.health = s.health := h _ hp
theorem Keeps.rt (hp : Part.rt ∉ L) : t.rt = s.rt := h _ hp
theorem Keeps.regions (hp : Part.regions ∉ L) : t.regions = s.regions := h _ hp
theorem Keeps.ports (hp : Part.ports ∉ L) : t.ports = s.ports := h _ hp
theorem Keeps.queue (hp : Part.queue ∉ L) : t.queue = s.queue := h _ hp
theorem Keeps.repair (hp : Part.repair ∉ L) : t.repair = s.repair := h _ hp
theorem Keeps.scrub (hp : Part.scrub ∉ L) : t.scrub = s.scrub := h _ hp
theorem Keeps.copy (hp : Part.copy ∉ L) : t.copy = s.copy := h _ hp
theorem Keeps.records (hp : Part.records ∉ L) : t.records = s.records := h _ hp
theorem Keeps.alerts (hp : Part.alerts ∉ L) : t.alerts = s.alerts := h _ hp
theorem Keeps.session (hp : Part.session ∉ L) : t.session = s.session := h _ hp
theorem Keeps.freeIndex (hp : Part.freeIndex ∉ L) : t.freeIndex = s.freeIndex := h _ hp
theorem Keeps.pending (hp : Part.pending ∉ L) : t.pending = s.pending := h _ hp

theorem Keeps.account (hp : Part.health ∉ L) (r : Replica) : t.account r = s.account r := by
  simp [State.account, h.health hp]

theorem Keeps.port (hp : Part.ports ∉ L) (r : Replica) : t.port r = s.port r := by simp [State.port, h.ports hp]

theorem Keeps.slot (hp : Part.rt ∉ L) (i : SlotId) : t.slot i = s.slot i := by simp [State.slot, h.rt hp]

theorem Keeps.lock (hp : Part.rt ∉ L) (e : Engine) : t.lock e = s.lock e := by simp [State.lock, h.rt hp]

theorem Keeps.voting (hp : Part.health ∉ L) : t.voting = s.voting := by simp [State.voting, h.account hp]

theorem Keeps.votingCount (hp : Part.health ∉ L) : t.votingCount = s.votingCount := by
  simp [State.votingCount, h.voting hp]

theorem Keeps.spanBlocks (hp : Part.pins ∉ L) : t.spanBlocks = s.spanBlocks := by simp [State.spanBlocks, h.pins hp]

theorem Keeps.spanBytes (hp : Part.pins ∉ L) : t.spanBytes = s.spanBytes := by
  simp [State.spanBytes, h.spanBlocks hp]

theorem Keeps.rebuildTarget (hp : Part.copy ∉ L) : t.rebuildTarget = s.rebuildTarget := by
  simp [State.rebuildTarget, h.copy hp]

theorem Keeps.writeTarget (hp : Part.copy ∉ L) (b : Nat) : t.writeTarget b = s.writeTarget b := by
  simp [State.writeTarget, h.copy hp]

end Projections

/-- Two states that agree in every part are one. -/
theorem Keeps.eq {s t : State} (h : Keeps [] s t) : t = s := by
  have hn : ∀ p : Part, p ∉ ([] : List Part) := fun _ => List.not_mem_nil
  cases s; cases t
  simp only [State.mk.injEq]
  exact ⟨h.pins (hn _), h.health (hn _), h.rt (hn _), h.regions (hn _), h.ports (hn _), h.queue (hn _), h.repair (hn _),
    h.scrub (hn _), h.copy (hn _), h.records (hn _), h.alerts (hn _), h.session (hn _), h.freeIndex (hn _),
    h.pending (hn _)⟩

theorem State.setAccount_keeps (r : Replica) (a : Account) (s : State) : Keeps [.health] s (s.setAccount r a) := by
  intro p hp; cases p <;> first | rfl | exact absurd hp (by decide)

theorem State.setPort_keeps (r : Replica) (p : Port) (s : State) : Keeps [.ports] s (s.setPort r p) := by
  intro p hp; cases p <;> first | rfl | exact absurd hp (by decide)

theorem State.setSlot_keeps (i : SlotId) (x : Option Slot) (s : State) : Keeps [.rt] s (s.setSlot i x) := by
  intro p hp; cases p <;> first | rfl | exact absurd hp (by decide)

theorem State.setLock_keeps (e : Engine) (x : EngineLock) (s : State) : Keeps [.rt] s (s.setLock e x) := by
  intro p hp; cases p <;> first | rfl | exact absurd hp (by decide)

theorem State.advance_keeps (n : Nat) (s : State) : Keeps [.health, .scrub, .session, .ports] s (s.advance n) := by
  intro p hp; cases p <;> first | rfl | exact absurd hp (by decide)

theorem State.updateCause_keeps (c : Cause) (f : CauseState → CauseState) (s : State) :
    Keeps [.alerts] s (s.updateCause c f) := by
  intro p hp; cases p <;> first | rfl | exact absurd hp (by decide)

theorem State.refreshLine_keeps (s : State) : Keeps [.alerts] s s.refreshLine := by
  intro p hp; cases p <;> first | rfl | exact absurd hp (by decide)

/-! ## Causes -/

theorem Causes.get_set {α : Type} (m : Causes α) (c d : Cause) (v : α) :
    (m.set c v).get d = if d = c then v else m.get d := by
  cases c with
  | health r =>
    cases d with
    | health q =>
      simp only [Causes.get, Causes.set, Tri.get_set, Cause.health.injEq]
    | _ => rfl
  | _ => cases d <;> rfl

/-- Every cause stands in the order of the positions. -/
theorem Cause.mem_all (c : Cause) : c ∈ Cause.all := by
  cases c with
  | health r => cases r <;> decide
  | _ => decide

/-- The computed test of R186 says what R186 says. -/
theorem Alerts.standing_iff (a : Alerts) : a.standing = true ↔ a.calls := by
  simp only [Alerts.standing, Alerts.calls, List.any_eq_true, Bool.and_eq_true]
  exact ⟨fun ⟨c, _, h⟩ => ⟨c, h⟩, fun ⟨c, h⟩ => ⟨c, Cause.mem_all c, h⟩⟩

/-- A re-evaluated line follows R186, whatever it was before. -/
theorem State.refreshLine_lineWf (s : State) : s.refreshLine.LineWf := by
  simp only [State.LineWf, State.refreshLine, Bool.and_eq_true, Bool.not_eq_true', Alerts.standing_iff]
  simp [Alerts.calls]

theorem State.updateCause_lineWf (c : Cause) (f : CauseState → CauseState) (s : State) : (s.updateCause c f).LineWf :=
  State.refreshLine_lineWf _

/-- One cause changes by its function, every other cause stays. -/
theorem State.updateCause_get (c d : Cause) (f : CauseState → CauseState) (s : State) :
    (s.updateCause c f).alerts.causes.get d =
      if d = c then f (s.alerts.causes.get c) else s.alerts.causes.get d := by
  simp [State.updateCause, State.refreshLine, Causes.get_set]

@[simp] theorem State.updateCause_enable (c : Cause) (f : CauseState → CauseState) (s : State) :
    (s.updateCause c f).alerts.enable = s.alerts.enable := rfl

/-! ## AlertsMoved -/

theorem AlertsMoved.refl (L : List Cause) (s : State) : AlertsMoved L s s := ⟨fun _ _ => rfl, rfl, id⟩

theorem AlertsMoved.mono {L M : List Cause} {s t : State} (h : AlertsMoved L s t) (hLM : L ⊆ M) : AlertsMoved M s t :=
  ⟨fun c hc => h.others c fun hl => hc (hLM hl), h.enable, h.line⟩

theorem AlertsMoved.trans {L : List Cause} {s t u : State} (h : AlertsMoved L s t) (h' : AlertsMoved L t u) :
    AlertsMoved L s u :=
  ⟨fun c hc => (h'.others c hc).trans (h.others c hc), h'.enable.trans h.enable, fun hs => h'.line (h.line hs)⟩

/-- A step that keeps the alert unit and the pins moves no alert. -/
theorem AlertsMoved.of_keeps {L : List Part} {M : List Cause} {s t : State} (h : Keeps L s t) (ha : Part.alerts ∉ L)
    (hp : Part.pins ∉ L) : AlertsMoved M s t :=
  ⟨fun _ _ => by rw [h.alerts ha], by rw [h.alerts ha], fun hs => by
    simpa only [State.LineWf, h.alerts ha, h.pins hp] using hs⟩

theorem State.updateCause_moved (c : Cause) (f : CauseState → CauseState) (s : State) :
    AlertsMoved [c] s (s.updateCause c f) :=
  ⟨fun d hd => by
    rw [State.updateCause_get, if_neg]
    simpa using hd, rfl, fun _ => State.updateCause_lineWf c f s⟩

theorem State.raise_moved (c : Cause) (s : State) : AlertsMoved [c] s (s.raise c) := State.updateCause_moved _ _ _

theorem State.raise_keeps (c : Cause) (s : State) : Keeps [.alerts] s (s.raise c) := State.updateCause_keeps _ _ _

theorem State.raise_latch (c : Cause) (s : State) : ((s.raise c).alerts.causes.get c).latch = true := by
  simp [State.raise, State.updateCause_get, CauseState.event]

theorem State.setCondition_moved (c : Cause) (b : Bool) (s : State) : AlertsMoved [c] s (s.setCondition c b) :=
  State.updateCause_moved _ _ _

theorem State.setCondition_keeps (c : Cause) (b : Bool) (s : State) : Keeps [.alerts] s (s.setCondition c b) :=
  State.updateCause_keeps _ _ _

theorem State.setCondition_get (c : Cause) (b : Bool) (s : State) :
    (s.setCondition c b).alerts.causes.get c = (s.alerts.causes.get c).setCondition b := by
  simp [State.setCondition, State.updateCause_get]

theorem State.suspectEntry_moved (r : Replica) (s : State) : AlertsMoved [.health r] s (s.suspectEntry r) :=
  State.updateCause_moved _ _ _

theorem State.suspectEntry_keeps (r : Replica) (s : State) : Keeps [.alerts] s (s.suspectEntry r) :=
  State.updateCause_keeps _ _ _

theorem State.suspectLeave_moved (r : Replica) (s : State) : AlertsMoved [.health r] s (s.suspectLeave r) :=
  State.updateCause_moved _ _ _

theorem State.suspectLeave_keeps (r : Replica) (s : State) : Keeps [.alerts] s (s.suspectLeave r) :=
  State.updateCause_keeps _ _ _

theorem State.handDegraded_moved (s : State) : AlertsMoved [.degraded] s s.handDegraded := State.setCondition_moved _ _ _

theorem State.handDegraded_keeps (s : State) : Keeps [.alerts] s s.handDegraded := State.setCondition_keeps _ _ _

/-! ## One cause -/

/-- A level condition takes exactly the value handed. -/
theorem CauseState.setCondition_condition (b : Bool) (c : CauseState) : (c.setCondition b).condition = b := by
  rcases c with ⟨l, k, a⟩
  cases l <;> cases k <;> cases a <;> cases b <;> rfl

/-- A true level condition stays latched, whatever is handed (R180). -/
theorem CauseState.setCondition_latched (b : Bool) {c : CauseState} (h : c.condition = true → c.latch = true) :
    (c.setCondition b).condition = true → (c.setCondition b).latch = true := by
  rcases c with ⟨l, k, a⟩
  revert h
  cases l <;> cases k <;> cases a <;> cases b <;> decide

theorem CauseState.levelAck_latched {c : CauseState} (h : c.condition = true → c.latch = true) :
    c.levelAck.condition = true → c.levelAck.latch = true := by
  simp only [CauseState.levelAck]; split <;> simp_all

end Sys2Proof.Machine
end

