-- ==== Sys2Proof/Laws/Blocks.lean ====
section
/-! SUPPORT. The frame of every shared operation: which parts of State it can change. -/

namespace Sys2Proof.Machine

open Sys2Proof

/-- A step that keeps a part followed by one with its own frame. -/
theorem Keeps.step {L M N : List Part} {s t u : State} (h : Keeps L s t) (h' : Keeps M t u) (hL : L ⊆ N) (hM : M ⊆ N) :
    Keeps N s u := (h.mono hL).trans (h'.mono hM)

/-- The same, read from the last step back. -/
theorem Keeps.after {L M : List Part} {s t u : State} (h' : Keeps M t u) (hM : M ⊆ L) (h : Keeps L s t) : Keeps L s u :=
  h.trans (h'.mono hM)

section Updates

variable {L : List Part} {s t : State}

theorem Keeps.with_repair {x : Repair} (hp : Part.repair ∈ L) (h : Keeps L s t) : Keeps L s { t with repair := x } := by
  refine h.trans fun p hn => ?_
  cases p <;> first | rfl | exact absurd hp hn

theorem Keeps.with_copy {x : Copy} (hp : Part.copy ∈ L) (h : Keeps L s t) : Keeps L s { t with copy := x } := by
  refine h.trans fun p hn => ?_
  cases p <;> first | rfl | exact absurd hp hn

theorem Keeps.with_scrub {x : Scrub} (hp : Part.scrub ∈ L) (h : Keeps L s t) : Keeps L s { t with scrub := x } := by
  refine h.trans fun p hn => ?_
  cases p <;> first | rfl | exact absurd hp hn

theorem Keeps.with_ports {x : Ports} (hp : Part.ports ∈ L) (h : Keeps L s t) : Keeps L s { t with ports := x } := by
  refine h.trans fun p hn => ?_
  cases p <;> first | rfl | exact absurd hp hn

theorem Keeps.with_rt {x : RequestTable} (hp : Part.rt ∈ L) (h : Keeps L s t) : Keeps L s { t with rt := x } := by
  refine h.trans fun p hn => ?_
  cases p <;> first | rfl | exact absurd hp hn

theorem Keeps.with_session {x : Session} (hp : Part.session ∈ L) (h : Keeps L s t) : Keeps L s { t with session := x } := by
  refine h.trans fun p hn => ?_
  cases p <;> first | rfl | exact absurd hp hn

theorem Keeps.with_health {x : Health} (hp : Part.health ∈ L) (h : Keeps L s t) : Keeps L s { t with health := x } := by
  refine h.trans fun p hn => ?_
  cases p <;> first | rfl | exact absurd hp hn

theorem Keeps.with_regions {x : Regions} (hp : Part.regions ∈ L) (h : Keeps L s t) : Keeps L s { t with regions := x } := by
  refine h.trans fun p hn => ?_
  cases p <;> first | rfl | exact absurd hp hn

end Updates

/-- A fold of steps with one frame has that frame. -/
theorem Keeps.foldl {α : Type} {L : List Part} {f : State → α → State} (h : ∀ s a, Keeps L s (f s a)) (l : List α)
    (s : State) : Keeps L s (l.foldl f s) := by
  induction l generalizing s with
  | nil => exact Keeps.refl L s
  | cons a l ih => exact (h s a).trans (ih (f s a))

/-! ## Fault records and the repair queue -/

theorem State.recordEvent_keeps (e : RecordEvent) (s : State) : Keeps [.records, .alerts] s (s.recordEvent e) := by
  unfold State.recordEvent
  split
  · exact Keeps.refl _ _
  · split
    · intro p hp; cases p <;> first | rfl | exact absurd hp (by decide)
    · intro p hp; cases p <;> first | rfl | exact absurd hp (by decide)

theorem State.recordRelease_keeps (v : Word) (s : State) : Keeps [.records] s (s.recordRelease v).2 := by
  unfold State.recordRelease
  split
  · exact Keeps.refl _ _
  · split
    · intro p hp; cases p <;> first | rfl | exact absurd hp (by decide)
    · exact Keeps.refl _ _

theorem State.setQueue_keeps (q : List QueueEntry) (s : State) : Keeps [.queue, .alerts] s (s.setQueue q) := by
  intro p hp; cases p <;> first | rfl | exact absurd hp (by decide)

@[simp] theorem State.setQueue_queue (q : List QueueEntry) (s : State) : (s.setQueue q).queue = q := rfl

theorem State.setQueue_moved (q : List QueueEntry) (s : State) : AlertsMoved [.queueFull] s (s.setQueue q) :=
  ⟨fun c hc => by
    simp only [State.setQueue, State.setCondition, State.updateCause_get]
    rw [if_neg (by simpa using hc)], rfl, fun _ => State.updateCause_lineWf _ _ _⟩

theorem State.setQueue_queueFull (q : List QueueEntry) (s : State) :
    (s.setQueue q).alerts.causes.queueFull = (s.alerts.causes.queueFull).setCondition (q.length == 32) := rfl

theorem State.insertRepair_keeps (block : Nat) (m : ReplicaSet) (n : Nat) (s : State) :
    Keeps [.queue, .alerts] s (s.insertRepair block m n).1 := by
  unfold State.insertRepair
  simp only
  split
  · exact Keeps.refl _ _
  · split
    · exact State.setQueue_keeps _ _
    · exact Keeps.refl _ _

theorem State.removeRepair_keeps (block : Nat) (r : Replica) (s : State) :
    Keeps [.queue, .alerts] s (s.removeRepair block r) := State.setQueue_keeps _ _

theorem State.retireFromQueue_keeps (r : Replica) (s : State) : Keeps [.queue, .alerts] s (s.retireFromQueue r) :=
  State.setQueue_keeps _ _

theorem State.purgeQueue_keeps (first last : Nat) (s : State) : Keeps [.queue, .alerts] s (s.purgeQueue first last) :=
  State.setQueue_keeps _ _

/-! ## The request table -/

/-- The parts that a grant of a claim can change. -/
abbrev grantParts : List Part := [.rt, .repair, .scrub, .copy]

theorem State.presentNext_keeps (s : State) : Keeps [.rt] s s.presentNext := by
  unfold State.presentNext
  split <;> first
    | exact Keeps.refl _ _
    | (intro p hp; cases p <;> first | rfl | exact absurd hp (by decide))

theorem State.promote_keeps (block : Nat) (s : State) : Keeps [.rt] s (s.promote block) := by
  unfold State.promote
  split
  · exact Keeps.refl _ _
  · split
    · exact Keeps.refl _ _
    · split
      · exact State.setSlot_keeps _ _ _
      · exact Keeps.refl _ _

theorem State.skipScrub_keeps (s : State) : Keeps [.rt, .scrub] s s.skipScrub := by
  intro p hp; cases p <;> first | rfl | exact absurd hp (by decide)

theorem State.engineGranted_keeps (e : Engine) (s : State) : Keeps [.repair, .scrub, .copy] s (s.engineGranted e) := by
  unfold State.engineGranted
  split
  · intro p hp; cases p <;> first | rfl | exact absurd hp (by decide)
  · intro p hp; cases p <;> first | rfl | exact absurd hp (by decide)
  · split <;> (intro p hp; cases p <;> first | rfl | exact absurd hp (by decide))

theorem State.grantClaim_keeps (e : Engine) (block : Nat) (s : State) : Keeps grantParts s (s.grantClaim e block) := by
  unfold State.grantClaim
  simp only
  refine Keeps.step (L := [.rt, .scrub]) ?_ (State.engineGranted_keeps e _) (by decide) (by decide)
  have hmap (u : State) : Keeps [.rt, .scrub] u { u with rt := { u.rt with slots := mapVector (holdBack block) u.rt.slots } } := by
    intro p hp; cases p <;> first | rfl | exact absurd hp (by decide)
  have hset := (State.setLock_keeps e { s.lock e with held := some block, claim := none } s).mono
    (M := [.rt, .scrub]) (by decide)
  split
  · exact (hset.trans (hmap _)).trans (State.skipScrub_keeps _)
  · exact hset.trans (hmap _)

theorem State.grantEarlier_keeps (e : Engine) (block : Nat) (s : State) : Keeps grantParts s (s.grantEarlier e block) := by
  unfold State.grantEarlier
  split
  · exact State.grantClaim_keeps _ _ _
  · exact Keeps.refl _ _

theorem State.claim_keeps (e : Engine) (block : Nat) (s : State) : Keeps grantParts s (s.claim e block) := by
  unfold State.claim
  simp only
  refine (State.setLock_keeps _ _ _).after (by decide) ?_
  split
  · exact (State.grantEarlier_keeps _ _ _).trans (State.grantEarlier_keeps _ _ _)
  · exact State.grantEarlier_keeps _ _ _
  · exact Keeps.refl _ _

/-- Where no claim of lower rank is pending on the block, a claim is no more than that. -/
theorem State.claim_of_no_other {e : Engine} {block : Nat} {s : State} (h : ∀ e', e' ≠ e → (s.lock e').claim ≠ some block) :
    s.claim e block = s.setLock e { s.lock e with claim := some block } := by
  have hg (e' : Engine) (he : e' ≠ e) : s.grantEarlier e' block = s := by
    have : s.claims e' block = false := by simpa [State.claims] using h e' he
    simp [State.grantEarlier, this]
  cases e <;> simp [State.claim, hg]

theorem State.freeBlock_keeps (block : Nat) (s : State) : Keeps grantParts s (s.freeBlock block) := by
  unfold State.freeBlock
  split
  · exact State.grantClaim_keeps _ _ _
  · split
    · exact State.grantClaim_keeps _ _ _
    · split
      · exact State.grantClaim_keeps _ _ _
      · exact (State.promote_keeps _ _).mono (by decide)

theorem State.releaseLock_keeps (e : Engine) (s : State) : Keeps grantParts s (s.releaseLock e) := by
  unfold State.releaseLock
  split
  · exact Keeps.refl _ _
  · split
    · exact (State.setLock_keeps _ _ _).mono (by decide)
    · exact ((State.setLock_keeps _ _ _).mono (by decide)).trans (State.freeBlock_keeps _ _)

theorem State.abandon_keeps (e : Engine) (s : State) : Keeps (.ports :: grantParts) s (s.abandon e) := by
  unfold State.abandon
  simp only
  refine Keeps.step (L := [.ports, .rt]) ?_ (State.releaseLock_keeps e _) (by decide) (by decide)
  refine Keeps.step (L := [.ports]) ?_ (State.setLock_keeps _ _ _) (by decide) (by decide)
  intro p hp; cases p <;> first | rfl | exact absurd hp (by decide)

theorem State.goneLeft_keeps (e : Engine) (block : Nat) (s : State) : Keeps grantParts s (s.goneLeft e block) := by
  unfold State.goneLeft
  split
  · exact ((State.setLock_keeps _ _ _).mono (by decide)).trans (State.freeBlock_keeps _ _)
  · exact Keeps.refl _ _

theorem State.answerSlot_keeps (i : SlotId) (sl : Slot) (s : State) : Keeps [.rt] s (s.answerSlot i sl) := by
  unfold State.answerSlot
  simp only
  refine Keeps.trans (t := _) ?_ (State.presentNext_keeps _)
  intro p hp; cases p <;> first | rfl | exact absurd hp (by decide)

theorem State.settleRunCount_keeps (s : State) : Keeps [.ports] s s.settleRunCount := by
  unfold State.settleRunCount
  split
  · intro p hp; cases p <;> first | rfl | exact absurd hp (by decide)
  · exact Keeps.refl _ _

/-! ## The replica port unit -/

theorem State.handOn_keeps (r : Replica) (x : OpAnswer) (entry : IssueEntry) (s : State) :
    Keeps grantParts s (s.handOn r x entry) := by
  unfold State.handOn
  split
  · exact (State.setSlot_keeps _ _ _).mono (by decide)
  · split
    · exact State.goneLeft_keeps _ _ _
    · exact (State.setEngineOp_keeps _ _ _).mono (by decide)

theorem State.emptyPort_keeps (r : Replica) (s : State) : Keeps (.ports :: grantParts) s (s.emptyPort r) := by
  unfold State.emptyPort
  simp only
  exact Keeps.step (L := [.ports]) (State.setPort_keeps _ _ _)
    (Keeps.foldl (fun s entry => State.handOn_keeps r .lost entry s) _ _) (by decide) (by decide)

theorem State.assertAbort_keeps (r : Replica) (s : State) : Keeps [.ports] s (s.assertAbort r) := State.setPort_keeps _ _ _

theorem State.beginAbort_keeps (r : Replica) (s : State) : Keeps (.ports :: grantParts) s (s.beginAbort r) :=
  (State.emptyPort_keeps r s).trans ((State.assertAbort_keeps r _).mono (by decide))

theorem State.retirePort_keeps (r : Replica) (s : State) : Keeps (.ports :: grantParts) s (s.retirePort r) := by
  unfold State.retirePort
  split <;> first | exact State.beginAbort_keeps r s | exact Keeps.refl _ _

theorem State.rebuildPort_keeps (r : Replica) (s : State) : Keeps (.ports :: grantParts) s (s.rebuildPort r) := by
  unfold State.rebuildPort
  split <;> first | exact State.beginAbort_keeps r s | exact Keeps.refl _ _

theorem State.issue_keeps (op : Op) (named : ReplicaSet) (s : State) : Keeps [.ports] s (s.issue op named) := by
  intro p hp; cases p <;> first | rfl | exact absurd hp (by decide)

/-! ## The health monitor and the end of a copy -/

/-- The parts that a charge, a retirement or the end of a copy can change. -/
abbrev actionParts : List Part := [.health, .rt, .regions, .ports, .queue, .repair, .scrub, .copy, .alerts]

theorem State.retireCore_keeps (r : Replica) (reason : RetireReason) (s : State) :
    Keeps actionParts s (s.retireCore r reason) := by
  unfold State.retireCore
  simp only
  refine (State.retireFromQueue_keeps _ _).after (by decide) ((State.retirePort_keeps _ _).after (by decide) ?_)
  refine Keeps.with_repair (by decide) ?_
  refine (State.handDegraded_keeps _).after (by decide) ((State.raise_keeps _ _).after (by decide) ?_)
  refine (State.setAccount_keeps _ _ _).after (by decide) ?_
  split
  · exact (State.suspectLeave_keeps _ _).mono (by decide)
  · exact Keeps.refl _ _

theorem State.joinRebuilt_keeps (r : Replica) (skips : Nat) (s : State) :
    Keeps [.health, .alerts] s (s.joinRebuilt r skips) := by
  unfold State.joinRebuilt
  simp only
  refine Keeps.trans ?_ ((State.handDegraded_keeps _).mono (by decide))
  split
  · exact (State.setAccount_keeps _ _ _).mono (by decide)
  · exact Keeps.step (State.setAccount_keeps _ _ _) (State.suspectEntry_keeps _ _) (by decide) (by decide)

theorem State.copyHandOver_keeps (kind : CopyKind) (o : CopyOutcome) (s : State) :
    Keeps actionParts s (s.copyHandOver kind o) := by
  unfold State.copyHandOver
  split
  · exact Keeps.refl _ _
  · intro p hp; cases p <;> first | rfl | exact absurd hp (by decide)
  · split
    · exact (State.joinRebuilt_keeps _ _ _).mono (by decide)
    · exact State.retireCore_keeps _ _ _

theorem State.copyForget_keeps (s : State) : Keeps [.repair] s s.copyForget := by
  intro p hp; cases p <;> first | rfl | exact absurd hp (by decide)

theorem State.copyEnd_keeps (o : CopyOutcome) (s : State) : Keeps actionParts s (s.copyEnd o) := by
  unfold State.copyEnd
  simp only
  have h (u : State) (hu : Keeps actionParts s u) (kind : CopyKind) :
      Keeps actionParts s (((u.copyForget.abandon .copy).copyHandOver kind o).raise .copyDone) :=
    (State.raise_keeps _ _).after (by decide)
      ((State.copyHandOver_keeps _ _ _).after (by decide)
        ((State.abandon_keeps _ _).after (by decide) ((State.copyForget_keeps _).after (by decide) hu)))
  have h0 := Keeps.with_copy (L := actionParts)
    (x := { s.copy with state := .idle, step := .none, outcome := o, op := .none }) (by decide) (Keeps.refl _ s)
  split
  · exact h _ h0 _
  · exact (State.settleRunCount_keeps _).after (by decide) (h _ h0 _)

theorem State.retire_keeps (r : Replica) (reason : RetireReason) (s : State) :
    Keeps actionParts s (s.retire r reason) := by
  unfold State.retire
  simp only
  split
  · exact (State.retireCore_keeps _ _ _).trans (State.copyEnd_keeps _ _)
  · exact State.retireCore_keeps _ _ _

theorem State.autoRetire_keeps (r : Replica) (s : State) : Keeps actionParts s (s.autoRetire r) := by
  unfold State.autoRetire
  simp only
  split
  · exact State.retire_keeps _ _ _
  · exact Keeps.refl _ _

theorem State.applyCharge_keeps (r : Replica) (k : ChargeKind) (s : State) :
    Keeps [.health, .alerts] s (s.applyCharge r k) := by
  unfold State.applyCharge
  simp only
  split
  · exact Keeps.step (State.setAccount_keeps _ _ _) (State.suspectEntry_keeps _ _) (by decide) (by decide)
  · exact (State.setAccount_keeps _ _ _).mono (by decide)

theorem State.charge_keeps (r : Replica) (k : ChargeKind) (s : State) : Keeps actionParts s (s.charge r k) := by
  unfold State.charge
  split
  · exact ((State.applyCharge_keeps _ _ _).mono (by decide)).trans (State.autoRetire_keeps _ _)
  · exact Keeps.refl _ _

theorem State.charges_keeps (kinds : Tri (Option ChargeKind)) (s : State) : Keeps actionParts s (s.charges kinds) := by
  unfold State.charges
  refine Keeps.foldl (fun s r => ?_) _ _
  split
  · exact State.charge_keeps _ _ _
  · exact Keeps.refl _ _

theorem State.targetFailure_keeps (r : Replica) (s : State) : Keeps actionParts s (s.targetFailure r) := by
  unfold State.targetFailure
  split
  · exact State.copyEnd_keeps _ _
  · exact Keeps.refl _ _

theorem State.retest_keeps (r : Replica) (s : State) : Keeps [.health, .alerts] s (s.retest r) := by
  unfold State.retest
  simp only
  split
  · exact Keeps.step (State.setAccount_keeps _ _ _) (State.suspectEntry_keeps _ _) (by decide) (by decide)
  · split
    · exact Keeps.step (State.setAccount_keeps _ _ _) (State.suspectLeave_keeps _ _) (by decide) (by decide)
    · exact Keeps.refl _ _

theorem State.decayScore_keeps (r : Replica) (s : State) : Keeps [.health] s (s.decayScore r) := by
  unfold State.decayScore
  simp only
  split
  · exact State.setAccount_keeps _ _ _
  · exact Keeps.refl _ _

theorem State.decayClear_keeps (r : Replica) (s : State) : Keeps [.health, .alerts] s (s.decayClear r) := by
  unfold State.decayClear
  simp only
  split
  · exact Keeps.step (State.setAccount_keeps _ _ _) (State.suspectLeave_keeps _ _) (by decide) (by decide)
  · exact Keeps.refl _ _

theorem State.forEach_keeps {L : List Part} {f : Replica → State → State} (h : ∀ r s, Keeps L s (f r s)) (s : State) :
    Keeps L s (s.forEach f) := ((h .a s).trans (h .b _)).trans (h .c _)

/-! ## Decisions -/

/-- The parts that a decision can change. -/
abbrev decisionParts : List Part := [.health, .rt, .regions, .ports, .queue, .repair, .scrub, .copy, .records, .alerts]

theorem State.insertEach_keeps (block : Nat) (m : ReplicaSet) (s : State) :
    Keeps [.queue, .alerts] s (s.insertEach block m).1 := by
  have step (acc : State × ReplicaSet) (r : Replica) (h : Keeps [.queue, .alerts] s acc.1) :
      Keeps [.queue, .alerts] s
        (if m.get r then
          ((acc.1.insertRepair block (Tri.only r) 0).1, acc.2.set r (acc.1.insertRepair block (Tri.only r) 0).2)
        else acc).1 := by
    split
    · exact h.trans (State.insertRepair_keeps _ _ _ _)
    · exact h
  exact step _ .c (step _ .b (step _ .a (Keeps.refl _ _)))

theorem State.reportRead_keeps (o : Origin) (block : Nat) (f : ReadFindings) (s : State) :
    Keeps decisionParts s (s.reportRead o block f) := by
  unfold State.reportRead
  exact (State.recordEvent_keeps _ _).after (by decide) ((State.recordEvent_keeps _ _).after (by decide)
    ((State.recordEvent_keeps _ _).after (by decide) ((State.charges_keeps _ _).after (by decide)
      ((State.insertEach_keeps _ _ _).mono (by decide)))))

theorem State.decideRead_keeps (i : SlotId) (sl : Slot) (s : State) : Keeps decisionParts s (s.decideRead i sl) := by
  unfold State.decideRead
  simp only
  have h (x : Slot) (f : ReadFindings) : Keeps decisionParts s
      (State.reportRead .upstreamRead sl.block f ((s.answerSlot i x).freeBlock sl.block)) :=
    (State.reportRead_keeps _ _ _ _).after (by decide) ((State.freeBlock_keeps _ _).after (by decide)
      ((State.answerSlot_keeps _ _ _).mono (by decide)))
  split
  · exact (State.raise_keeps _ _).after (by decide) (h _ _)
  · exact h _ _

theorem State.reportRemovals_keeps (sl : Slot) (s : State) : Keeps [.queue, .alerts] s (s.reportRemovals sl) := by
  unfold State.reportRemovals
  simp only
  split
  · refine Keeps.foldl (fun s r => ?_) _ _
    split
    · exact State.removeRepair_keeps _ _ _
    · exact Keeps.refl _ _
  · exact Keeps.refl _ _

theorem State.reportMissed_keeps (sl : Slot) (s : State) : Keeps decisionParts s (s.reportMissed sl) := by
  unfold State.reportMissed
  exact (State.recordEvent_keeps _ _).after (by decide) ((State.charges_keeps _ _).after (by decide)
    ((State.insertEach_keeps _ _ _).mono (by decide)))

theorem State.reportUnwritten_keeps (sl : Slot) (s : State) : Keeps decisionParts s (s.reportUnwritten sl) := by
  unfold State.reportUnwritten
  exact (State.raise_keeps _ _).after (by decide) ((State.recordEvent_keeps _ _).after (by decide)
    ((State.charges_keeps _ _).mono (by decide)))

theorem State.reportTarget_keeps (sl : Slot) (s : State) : Keeps actionParts s (s.reportTarget sl) := by
  unfold State.reportTarget
  split <;> first | exact State.targetFailure_keeps _ _ | exact Keeps.refl _ _

theorem State.decideWrite_keeps (i : SlotId) (sl : Slot) (s : State) : Keeps decisionParts s (s.decideWrite i sl) := by
  unfold State.decideWrite
  simp only
  have h : Keeps decisionParts s (State.reportRemovals sl
      ((s.answerSlot i { sl with status := some (writeStatus (voterAnswers sl.voters)) }).freeBlock sl.block)) :=
    (State.reportRemovals_keeps _ _).after (by decide) ((State.freeBlock_keeps _ _).after (by decide)
      ((State.answerSlot_keeps _ _ _).mono (by decide)))
  refine (State.reportTarget_keeps _ _).after (by decide) ?_
  split
  · exact h.trans (State.reportUnwritten_keeps _ _)
  · exact h.trans (State.reportMissed_keeps _ _)

theorem State.decideSlot_keeps (i : SlotId) (s : State) : Keeps decisionParts s (s.decideSlot i) := by
  unfold State.decideSlot
  split
  · exact Keeps.refl _ _
  · split
    · exact State.decideWrite_keeps _ _ _
    · exact State.decideRead_keeps _ _ _
    · split
      · exact State.decideRead_keeps _ _ _
      · exact (State.setSlot_keeps _ _ _).mono (by decide)
    · exact (State.setSlot_keeps _ _ _).mono (by decide)

theorem State.endScrubRead_keeps (s : State) : Keeps grantParts s s.endScrubRead := by
  unfold State.endScrubRead
  exact Keeps.with_scrub (by decide) ((State.releaseLock_keeps _ _).after (by decide)
    (Keeps.with_scrub (by decide) (Keeps.refl _ _)))

theorem State.decideScrub_keeps (s : State) : Keeps decisionParts s s.decideScrub := by
  unfold State.decideScrub
  split
  · simp only
    refine (State.endScrubRead_keeps _).after (by decide) ?_
    split
    · exact State.reportRead_keeps _ _ _ _
    · exact (State.raise_keeps _ _).after (by decide) (State.reportRead_keeps _ _ _ _)
  · exact Keeps.refl _ _
  · exact Keeps.refl _ _

theorem State.endRepair_keeps (s : State) : Keeps grantParts s s.endRepair := by
  unfold State.endRepair
  exact (State.releaseLock_keeps _ _).after (by decide) (Keeps.with_repair (by decide) (Keeps.refl _ _))

theorem State.beginRepairWrite_keeps (values : List Word) (s : State) : Keeps grantParts s (s.beginRepairWrite values) := by
  unfold State.beginRepairWrite
  split
  · exact State.endRepair_keeps _
  · exact Keeps.with_repair (by decide) (Keeps.refl _ _)

theorem State.decideRepairRead_keeps (answers : Tri (Option OpAnswer)) (s : State) :
    Keeps decisionParts s (s.decideRepairRead answers) := by
  unfold State.decideRepairRead
  simp only
  split
  · exact (State.endRepair_keeps _).after (by decide) ((State.recordEvent_keeps _ _).mono (by decide))
  · split
    · exact (State.endRepair_keeps _).after (by decide) ((State.raise_keeps _ _).after (by decide)
        ((State.recordEvent_keeps _ _).mono (by decide)))
    · exact (State.beginRepairWrite_keeps _ _).mono (by decide)

/-- A target failure reported for each replica of a set. -/
theorem State.targetFailures_keeps (m : ReplicaSet) (l : List Replica) (s : State) :
    Keeps actionParts s (l.foldl (fun s r => if m.get r then s.targetFailure r else s) s) := by
  refine Keeps.foldl (fun s r => ?_) _ _
  split
  · exact State.targetFailure_keeps _ _
  · exact Keeps.refl _ _

theorem State.endRepairWrite_keeps (answers : Tri (Option OpAnswer)) (s : State) :
    Keeps decisionParts s (s.endRepairWrite answers) := by
  unfold State.endRepairWrite
  simp only
  exact Keeps.with_repair (by decide) ((State.targetFailures_keeps _ _ _).after (by decide)
    (Keeps.with_repair (t := s) (by decide) (Keeps.refl _ _)))

theorem State.reinsert_keeps (m : ReplicaSet) (s : State) : Keeps [.queue, .alerts] s (s.reinsert m).1 := by
  unfold State.reinsert
  split
  · exact State.insertRepair_keeps _ _ _ _
  · exact Keeps.refl _ _

theorem State.verifyOutcome_keeps (answers : Tri (Option OpAnswer)) (s : State) :
    Keeps decisionParts s (s.verifyOutcome answers) := by
  unfold State.verifyOutcome
  simp only
  refine (State.endRepair_keeps _).after (by decide) ((State.recordEvent_keeps _ _).after (by decide)
    ((State.targetFailures_keeps _ _ _).after (by decide) ((State.charges_keeps _ _).after (by decide) ?_)))
  split
  · exact Keeps.refl _ _
  · exact (State.reinsert_keeps _ _).mono (by decide)

theorem State.decideRepair_keeps (s : State) : Keeps decisionParts s s.decideRepair := by
  unfold State.decideRepair
  split <;> first
    | exact State.decideRepairRead_keeps _ _
    | exact State.endRepairWrite_keeps _ _
    | exact State.verifyOutcome_keeps _ _
    | exact Keeps.refl _ _

theorem State.copyAdvance_keeps (s : State) : Keeps actionParts s s.copyAdvance := by
  unfold State.copyAdvance
  simp only
  split
  · exact (State.copyEnd_keeps _ _).after (by decide) (Keeps.with_copy (t := s) (by decide) (Keeps.refl _ _))
  · exact (State.claim_keeps _ _ _).after (by decide) ((State.releaseLock_keeps _ _).after (by decide)
      (Keeps.with_copy (t := s) (by decide) (Keeps.refl _ _)))

theorem State.judgeFill_keeps (answers : Tri (Option OpAnswer)) (s : State) : Keeps decisionParts s (s.judgeFill answers) := by
  unfold State.judgeFill
  simp only
  have h1 (c : Bool) (m : ReplicaSet) :
      Keeps decisionParts s (if c then (s, false) else s.insertRepair s.copy.pointer m 0).1 := by
    cases c
    · exact (State.insertRepair_keeps _ _ _ _).mono (by decide)
    · exact Keeps.refl _ _
  refine (State.copyAdvance_keeps _).after (by decide) ?_
  split <;> [skip; refine (State.raise_keeps _ _).after (by decide) ?_] <;>
    exact (State.recordEvent_keeps _ _).after (by decide) ((State.charges_keeps _ _).after (by decide) (h1 _ _))

theorem State.decideCopyRead_keeps (target : Replica) (answers : Tri (Option OpAnswer)) (s : State) :
    Keeps decisionParts s (s.decideCopyRead target answers) := by
  unfold State.decideCopyRead
  simp only
  split
  · exact (State.copyAdvance_keeps _).after (by decide) ((State.raise_keeps _ _).after (by decide)
      ((State.recordEvent_keeps _ _).after (by decide) (Keeps.with_copy (t := s) (by decide) (Keeps.refl _ _))))
  · exact Keeps.with_copy (by decide) (Keeps.refl _ _)

theorem State.endCopyWrite_keeps (answers : Tri (Option OpAnswer)) (s : State) :
    Keeps actionParts s (s.endCopyWrite answers) := by
  unfold State.endCopyWrite
  split
  · exact State.copyAdvance_keeps _
  · exact State.copyEnd_keeps _ _

theorem State.decideCopy_keeps (s : State) : Keeps decisionParts s s.decideCopy := by
  unfold State.decideCopy
  split <;> first
    | exact State.judgeFill_keeps _ _
    | exact State.decideCopyRead_keeps _ _ _
    | exact (State.endCopyWrite_keeps _ _).mono (by decide)
    | exact Keeps.refl _ _

theorem State.decideFor_keeps (d : Decider) (s : State) : Keeps decisionParts s (s.decideFor d) := by
  unfold State.decideFor
  split
  · exact State.decideSlot_keeps _ _
  · exact State.decideRepair_keeps _
  · exact State.decideCopy_keeps _
  · exact State.decideScrub_keeps _

/-! ## Settling -/

/-- A property that every decision keeps, and a drawn free choice keeps, is kept by settling: the induction over the decisions an
event runs. -/
theorem State.settle_induction {P : State → Prop} (hd : ∀ d s, P s → P (s.decideFor d))
    (hf : ∀ (s : State) (n : Nat), P s → P { s with freeIndex := n }) {s : State} (h : P s) : P s.settle := by
  unfold State.settle
  generalize Config.decisionBound = n
  induction n generalizing s with
  | zero => exact h
  | succ n ih =>
    unfold State.settleFor
    split
    · exact h
    · exact ih (hd _ _ h)
    · exact ih (hd _ _ (hf _ _ h))

theorem State.settle_keeps (s : State) : Keeps (.freeIndex :: decisionParts) s s.settle := by
  refine State.settle_induction (P := fun t => Keeps (.freeIndex :: decisionParts) s t) ?_ ?_ (Keeps.refl _ _)
  · exact fun d t h => h.trans ((State.decideFor_keeps d t).mono (by decide))
  · intro t n h
    refine h.trans ?_
    intro p hp; cases p <;> first | rfl | exact absurd hp (by decide)

/-- With no decision ready, settling changes nothing. -/
theorem State.settle_of_ready_nil {s : State} (h : s.ready = []) : s.settle = s := by
  have : ∀ n, State.settleFor n s = s := fun n => by
    cases n with
    | zero => rfl
    | succ n => unfold State.settleFor; rw [h]
  exact this _

end Sys2Proof.Machine
end

