-- ==== Sys2Proof/Laws/Table.lean ====
section
/-! SUPPORT. What the shared operations leave of the request table: its two orders, the holding place and the response channel
(TableKept), how slots can change under a grant of a claim, and what an answer given at acceptance leaves. -/

namespace Sys2Proof.Machine

open Sys2Proof

/-- The holding place, the two orders and the channel are the same, and the same places are FREE. -/
structure TableKept (s t : State) : Prop where
  holding : t.rt.holding = s.rt.holding
  acceptOrder : t.rt.acceptOrder = s.rt.acceptOrder
  answerOrder : t.rt.answerOrder = s.rt.answerOrder
  channel : t.rt.channel = s.rt.channel
  occupied : ∀ i, (t.slot i).isSome = (s.slot i).isSome

theorem TableKept.refl (s : State) : TableKept s s := ⟨rfl, rfl, rfl, rfl, fun _ => rfl⟩

theorem TableKept.trans {s t u : State} (h : TableKept s t) (h' : TableKept t u) : TableKept s u :=
  ⟨h'.holding.trans h.holding, h'.acceptOrder.trans h.acceptOrder, h'.answerOrder.trans h.answerOrder,
    h'.channel.trans h.channel, fun i => (h'.occupied i).trans (h.occupied i)⟩

theorem TableKept.after {s t u : State} (h' : TableKept t u) (h : TableKept s t) : TableKept s u := h.trans h'

/-- A step that keeps the request table keeps its lists. -/
theorem TableKept.of_keeps {L : List Part} {s t : State} (h : Keeps L s t) (hp : Part.rt ∉ L) : TableKept s t :=
  ⟨by rw [h.rt hp], by rw [h.rt hp], by rw [h.rt hp], by rw [h.rt hp], fun i => by rw [h.slot hp]⟩

theorem TableKept.foldl {α : Type} {f : State → α → State} (h : ∀ s a, TableKept s (f s a)) (l : List α) (s : State) :
    TableKept s (l.foldl f s) := by
  induction l generalizing s with
  | nil => exact TableKept.refl s
  | cons a l ih => exact (h s a).trans (ih (f s a))

/-! ## Locks and claims -/

theorem State.setLock_table (e : Engine) (x : EngineLock) (s : State) : TableKept s (s.setLock e x) :=
  ⟨rfl, rfl, rfl, rfl, fun _ => rfl⟩

/-- Replacing an occupied place by an occupied one. -/
theorem State.setSlot_table {i : SlotId} {sl : Slot} {s : State} (h : (s.slot i).isSome = true) :
    TableKept s (s.setSlot i (some sl)) :=
  ⟨rfl, rfl, rfl, rfl, fun j => by
    rw [State.slot_setSlot]
    by_cases hj : j = i
    · subst hj; simp [h]
    · simp [hj]⟩

theorem State.promote_table (block : Nat) (s : State) : TableKept s (s.promote block) := by
  unfold State.promote
  split
  · exact TableKept.refl _
  · split
    · exact TableKept.refl _
    · rename_i hsl
      split
      · exact State.setSlot_table (by simp [hsl])
      · exact TableKept.refl _

theorem State.skipScrub_table (s : State) : TableKept s s.skipScrub := ⟨rfl, rfl, rfl, rfl, fun _ => rfl⟩

theorem State.engineGranted_table (e : Engine) (s : State) : TableKept s (s.engineGranted e) :=
  TableKept.of_keeps (State.engineGranted_keeps e s) (by decide)

/-- The places of the table under a granted claim: READY requests for the block are held back, no other changes (R39). -/
theorem State.grantClaim_slot (e : Engine) (block : Nat) (s : State) (i : SlotId) :
    (s.grantClaim e block).slot i = holdBack block (s.slot i) := by
  unfold State.grantClaim
  simp only
  rw [(State.engineGranted_keeps e _).slot (by decide)]
  split <;> simp [State.slot, State.skipScrub, State.setLock, mapVector_getElem]

theorem State.grantClaim_table (e : Engine) (block : Nat) (s : State) : TableKept s (s.grantClaim e block) := by
  have hocc : ∀ i, ((s.grantClaim e block).slot i).isSome = (s.slot i).isSome := fun i => by
    rw [State.grantClaim_slot]; simp [holdBack]
  unfold State.grantClaim at hocc ⊢
  simp only at hocc ⊢
  have hrt : ∀ u : State, (u.engineGranted e).rt = u.rt := fun u => (State.engineGranted_keeps e u).rt (by decide)
  refine ⟨?_, ?_, ?_, ?_, hocc⟩ <;> rw [hrt] <;> split <;> rfl

theorem State.freeBlock_table (block : Nat) (s : State) : TableKept s (s.freeBlock block) := by
  unfold State.freeBlock
  split
  · exact State.grantClaim_table _ _ _
  · split
    · exact State.grantClaim_table _ _ _
    · split
      · exact State.grantClaim_table _ _ _
      · exact State.promote_table _ _

theorem State.grantEarlier_table (e : Engine) (block : Nat) (s : State) : TableKept s (s.grantEarlier e block) := by
  unfold State.grantEarlier
  split
  · exact State.grantClaim_table _ _ _
  · exact TableKept.refl _

theorem State.claim_table (e : Engine) (block : Nat) (s : State) : TableKept s (s.claim e block) := by
  unfold State.claim
  refine (State.setLock_table _ _ _).after ?_
  split
  · exact (State.grantEarlier_table _ _ _).trans (State.grantEarlier_table _ _ _)
  · exact State.grantEarlier_table _ _ _
  · exact TableKept.refl _

theorem State.releaseLock_table (e : Engine) (s : State) : TableKept s (s.releaseLock e) := by
  unfold State.releaseLock
  split
  · exact TableKept.refl _
  · split
    · exact State.setLock_table _ _ _
    · exact (State.setLock_table _ _ _).trans (State.freeBlock_table _ _)

theorem State.abandon_table (e : Engine) (s : State) : TableKept s (s.abandon e) := by
  unfold State.abandon
  exact (State.releaseLock_table _ _).after ((State.setLock_table _ _ _).after ⟨rfl, rfl, rfl, rfl, fun _ => rfl⟩)

theorem State.goneLeft_table (e : Engine) (block : Nat) (s : State) : TableKept s (s.goneLeft e block) := by
  unfold State.goneLeft
  split
  · exact (State.setLock_table _ _ _).trans (State.freeBlock_table _ _)
  · exact TableKept.refl _

/-! ## Losses, retirements and the end of a copy -/

theorem State.handOn_table (r : Replica) (x : OpAnswer) (entry : IssueEntry) (s : State) :
    TableKept s (s.handOn r x entry) := by
  unfold State.handOn
  split
  · rename_i i _
    cases h : s.slot i with
    | none =>
      refine ⟨rfl, rfl, rfl, rfl, fun j => ?_⟩
      rw [State.slot_setSlot]
      by_cases hj : j = i
      · subst hj; simp [h]
      · simp [hj]
    | some sl => exact State.setSlot_table (by simp [h])
  · split
    · exact State.goneLeft_table _ _ _
    · exact TableKept.of_keeps (State.setEngineOp_keeps _ _ _) (by decide)

theorem State.emptyPort_table (r : Replica) (s : State) : TableKept s (s.emptyPort r) := by
  unfold State.emptyPort
  exact (TableKept.foldl (fun s entry => State.handOn_table r .lost entry s) _ _).after ⟨rfl, rfl, rfl, rfl, fun _ => rfl⟩

theorem State.beginAbort_table (r : Replica) (s : State) : TableKept s (s.beginAbort r) :=
  (TableKept.of_keeps (State.assertAbort_keeps r _) (by decide)).after (State.emptyPort_table r s)

theorem State.retirePort_table (r : Replica) (s : State) : TableKept s (s.retirePort r) := by
  unfold State.retirePort
  split <;> first | exact State.beginAbort_table r s | exact TableKept.refl _

theorem State.retireCore_table (r : Replica) (reason : RetireReason) (s : State) :
    TableKept s (s.retireCore r reason) := by
  unfold State.retireCore
  simp only
  have hrepair {u : State} (h : TableKept s u) (x : Repair) : TableKept s { u with repair := x } :=
    ⟨h.1, h.2, h.3, h.4, h.5⟩
  refine (TableKept.of_keeps (State.retireFromQueue_keeps _ _) (by decide)).after
    ((State.retirePort_table _ _).after (hrepair ?_ _))
  refine (TableKept.of_keeps (State.handDegraded_keeps _) (by decide)).after
    ((TableKept.of_keeps (State.raise_keeps _ _) (by decide)).after
      ((TableKept.of_keeps (State.setAccount_keeps _ _ _) (by decide)).after ?_))
  split
  · exact TableKept.of_keeps (State.suspectLeave_keeps _ _) (by decide)
  · exact TableKept.refl _

theorem State.copyHandOver_table (kind : CopyKind) (o : CopyOutcome) (s : State) :
    TableKept s (s.copyHandOver kind o) := by
  unfold State.copyHandOver
  split
  · exact TableKept.refl _
  · exact ⟨rfl, rfl, rfl, rfl, fun _ => rfl⟩
  · split
    · exact TableKept.of_keeps (State.joinRebuilt_keeps _ _ _) (by decide)
    · exact State.retireCore_table _ _ _

theorem State.copyEnd_table (o : CopyOutcome) (s : State) : TableKept s (s.copyEnd o) := by
  unfold State.copyEnd
  simp only
  have h (u : State) (kind : CopyKind) :
      TableKept u (((u.copyForget.abandon .copy).copyHandOver kind o).raise .copyDone) :=
    (TableKept.of_keeps (State.raise_keeps _ _) (by decide)).after
      ((State.copyHandOver_table _ _ _).after
        ((State.abandon_table _ _).after (TableKept.of_keeps (State.copyForget_keeps _) (by decide))))
  split
  · exact (h _ _).after ⟨rfl, rfl, rfl, rfl, fun _ => rfl⟩
  · exact (TableKept.of_keeps (State.settleRunCount_keeps _) (by decide)).after
      ((h _ _).after ⟨rfl, rfl, rfl, rfl, fun _ => rfl⟩)

theorem State.retire_table (r : Replica) (reason : RetireReason) (s : State) : TableKept s (s.retire r reason) := by
  unfold State.retire
  simp only
  split
  · exact (State.copyEnd_table _ _).after (State.retireCore_table _ _ _)
  · exact State.retireCore_table _ _ _

/-! ## Answers given at acceptance -/

theorem State.slot_congr {s t : State} (h : t.rt.slots = s.rt.slots) (i : SlotId) : t.slot i = s.slot i := by
  simp only [State.slot]
  rw [h]

/-- The lock set and the acceptance order list are not the presenter's to change. -/
theorem State.presentNext_rest (s : State) :
    s.presentNext.rt.slots = s.rt.slots ∧ s.presentNext.rt.holding = s.rt.holding
      ∧ s.presentNext.rt.acceptOrder = s.rt.acceptOrder ∧ s.presentNext.rt.locks = s.rt.locks := by
  unfold State.presentNext
  split <;> exact ⟨rfl, rfl, rfl, rfl⟩

theorem State.presentNext_of_channel {s : State} (h : s.rt.channel.isSome = true) : s.presentNext = s := by
  unfold State.presentNext
  split <;> simp_all

/-- What an ANSWERED slot placed in a FREE place leaves (R28, R30, R43). -/
theorem State.placeAnswered_at {i : SlotId} {sl : Slot} {s : State} (hst : sl.state = .answered)
    (htag : sl.tag = sl.response.tag) (hh : s.rt.holding = none) :
    AnsweredAt i sl.response s (s.placeAnswered i sl) := by
  have hrest := State.presentNext_rest
    { s.setSlot i (some sl) with
      rt := { (s.setSlot i (some sl)).rt with answerOrder := (s.setSlot i (some sl)).rt.answerOrder ++ [i] } }
  have hslot : ∀ j, (s.placeAnswered i sl).slot j = (s.setSlot i (some sl)).slot j := State.slot_congr hrest.1
  refine ⟨⟨sl, ?_, hst, htag, rfl⟩, fun j hj => ?_, hrest.2.1, hrest.2.2.1, hrest.2.2.2, fun hc => ?_, fun hc ha => ?_⟩
  · rw [hslot]; simp
  · rw [hslot, State.slot_setSlot, if_neg hj]
  · unfold State.placeAnswered
    simp only
    rw [State.presentNext_of_channel (by simpa using hc)]
    exact ⟨rfl, rfl⟩
  · simp [State.placeAnswered, State.presentNext, hc, ha, hh, State.slot, State.setSlot]

theorem State.placeAnswered_keeps (i : SlotId) (sl : Slot) (s : State) : Keeps [.rt] s (s.placeAnswered i sl) :=
  (State.presentNext_keeps _).after (by decide)
    (Keeps.with_rt (t := s.setSlot i (some sl)) (by decide) (State.setSlot_keeps _ _ _))

end Sys2Proof.Machine
end

