-- ==== Sys2Proof/Laws/Aperture.lean ====
section
/-! SUPPORT. The acceptance of an aperture access with the session OPEN, once for every word: which checks it passes, and what a
taken or refused write leaves when its owner leaves the state u. -/

namespace Sys2Proof.Machine

open Sys2Proof

/-! ## What apertureReady gives -/

theorem State.acceptsTag_spec {s : State} {tag : Tag} (h : s.acceptsTag tag = true) :
    s.accepting = true ∧ s.tagInUse tag = false := by
  simpa [State.acceptsTag] using h

theorem State.accepting_spec {s : State} (h : s.accepting = true) :
    s.pins.resetAsserted = false ∧ (∃ i, s.freeSlot = some i) ∧ s.rt.holding = none := by
  simp only [State.accepting, Bool.and_eq_true, Bool.not_eq_true', Option.isNone_iff_eq_none] at h
  exact ⟨h.1.1, Option.isSome_iff_exists.1 h.1.2, h.2⟩

theorem State.apertureReady_spec {s : State} {tag : Tag} (h : s.apertureReady tag = true) :
    s.accepting = true ∧ s.tagInUse tag = false ∧ s.session.state = .opened ∧ s.session.base % 512 = 0
      ∧ s.session.base + 512 ≤ s.spanBytes := by
  simp only [State.apertureReady, Bool.and_eq_true, beq_iff_eq, Session.basePlaced, decide_eq_true_eq] at h
  have := State.acceptsTag_spec h.1.1
  exact ⟨this.1, this.2, h.1.2, h.2.1, h.2.2⟩

theorem Config.spanBlocks_le (span : BitVec 2) : Config.spanBlocks span ≤ 16777216 := by
  revert span; decide

theorem State.spanBytes_le (s : State) : s.spanBytes ≤ 1073741824 := by
  have := Config.spanBlocks_le s.pins.straps.span
  simp only [State.spanBytes, State.spanBlocks]; omega

/-- The address of word k is no wrapped number: the span is below 2 to the 32. -/
theorem State.wordAddress {s : State} {tag : Tag} (h : s.apertureReady tag = true) {k : Nat} (hk : k < 64) :
    (BitVec.ofNat 32 (s.session.base / 8 + k)).toNat = s.session.base / 8 + k := by
  have hs := State.apertureReady_spec h
  have := State.spanBytes_le s
  rw [BitVec.toNat_ofNat, Nat.mod_eq_of_lt]
  omega

/-- A request at word k, neither malformed nor refused before, is routed APERTURE (R26). -/
theorem State.check_aperture {s : State} {r : Request} {k : Nat} (h : s.apertureReady r.tag = true) (hk : k < 64)
    (ha : r.address.toNat = s.session.base / 8 + k) (hm : Request.malformed r = false) : s.check r = .aperture := by
  obtain ⟨_, htag, hopen, hmod, hbase⟩ := State.apertureReady_spec h
  have hb : r.block = s.session.base / 64 + k / 8 := by simp only [Request.block, ha]; omega
  have hspan : s.spanBytes = s.spanBlocks * 64 := rfl
  simp only [Request.malformed, Bool.or_eq_false_iff, decide_eq_false_iff_not, beq_eq_false_iff_ne] at hm
  have h2 : ¬(r.length.val = 0 ∨ 8 < r.length.val ∨ 8 < r.firstWord + r.length.val) := by
    rintro (h | h | h)
    · exact hm.1.1 h
    · exact hm.1.2 h
    · exact hm.2 h
  have h3 : ¬(s.spanBlocks ≤ r.block) := by omega
  have h4 : s.session.covers r.block = true := by
    simp only [Session.covers, hb, Bool.and_eq_true, decide_eq_true_eq]; omega
  unfold State.check
  rw [if_neg (by simp [htag]), if_neg h2, if_neg h3, if_pos ⟨hopen, h4⟩]

/-- An access routed APERTURE is answered by CS in the slot that was FREE. -/
theorem State.accept_aperture {s : State} {r : Request} {k : Nat} {i : SlotId} (h : s.apertureReady r.tag = true)
    (hk : k < 64) (ha : r.address.toNat = s.session.base / 8 + k) (hm : Request.malformed r = false)
    (hi : s.freeSlot = some i) : s.accept r = s.accessAperture i r := by
  have hacc := (State.apertureReady_spec h).1
  simp [State.accept, hacc, hi, State.check_aperture h hk ha hm]

/-! ## Taken and refused writes -/

theorem Request.slot_state (r : Request) (st : SlotState) (route : Route) (p : Option ReadMode) :
    (r.slot st route p).state = st ∧ (r.slot st route p).tag = r.tag := ⟨rfl, rfl⟩

theorem State.placeRefused_at {i : SlotId} {r : Request} {route : Route} {reason : Reason} {s : State}
    (hh : s.rt.holding = none) :
    AnsweredAt i (refusedResponse r.tag reason) s (s.placeRefused i r route reason) :=
  State.placeAnswered_at (sl := { r.slot .answered route none with status := some .refused, reason := some reason })
    rfl rfl hh

theorem State.placeRefused_keeps (i : SlotId) (r : Request) (route : Route) (reason : Reason) (s : State) :
    Keeps [.rt] s (s.placeRefused i r route reason) := State.placeAnswered_keeps _ _ _

/-- AnsweredAt speaks of the request table alone. -/
theorem AnsweredAt.congr {i : SlotId} {resp : Response} {s s' t t' : State} (h : AnsweredAt i resp s t) (hs : s'.rt = s.rt)
    (ht : t'.rt = t.rt) : AnsweredAt i resp s' t' := by
  have hsl : ∀ j, s'.slot j = s.slot j := fun j => by simp only [State.slot]; rw [hs]
  have htl : ∀ j, t'.slot j = t.slot j := fun j => by simp only [State.slot]; rw [ht]
  obtain ⟨⟨sl, h1⟩, h2, h3, h4, h5, h6, h7⟩ := h
  exact ⟨⟨sl, by rw [htl]; exact h1⟩, fun j hj => by rw [htl, hsl]; exact h2 j hj, by rw [ht, hs]; exact h3,
    by rw [ht, hs]; exact h4, by rw [ht, hs]; exact h5, by rw [ht, hs]; exact h6, by rw [ht, hs]; exact h7⟩

theorem State.restartIdle_rt (s : State) : s.restartIdle.rt = s.rt := by
  unfold State.restartIdle; split <;> rfl

theorem State.restartIdle_keeps (s : State) : Keeps [.session] s s.restartIdle := by
  unfold State.restartIdle
  split
  · exact Keeps.with_session (by decide) (Keeps.refl _ _)
  · exact Keeps.refl _ _

theorem State.answerWrite_at {i : SlotId} {r : Request} {o : ResultOutcome} {s : State} (hw : r.access.kind = .write)
    (hh : s.rt.holding = none) : AnsweredAt i (writeResponse r.tag o) s (s.answerWrite i r o) := by
  unfold State.answerWrite writeResponse
  split
  · have hresp : ({ r.slot .answered .aperture none with status := some .clean } : Slot).response =
        { tag := r.tag, status := .clean, reason := none, failedMask := none, words := [] } := by
      simp [Slot.response, Request.slot, hw]
    rw [← hresp]
    exact State.placeAnswered_at rfl (by rw [hresp]; rfl) hh
  · exact State.placeRefused_at hh

theorem State.answerWrite_keeps (i : SlotId) (r : Request) (o : ResultOutcome) (s : State) :
    Keeps [.rt] s (s.answerWrite i r o) := by
  unfold State.answerWrite
  split
  · exact State.placeAnswered_keeps _ _ _
  · exact State.placeRefused_keeps _ _ _ _ _

/-- A taken write of word k whose owner answers o and leaves u (R195 check 5, R197, R192). -/
theorem State.takeWrite_taken {s u : State} {i : SlotId} {r : Request} {k : Nat} {v : Word} {o : ResultOutcome}
    (hw : r.access.kind = .write) (hi : s.freeSlot = some i) (hu : s.writeWord k v = (o, u)) (hh : u.rt.holding = none) :
    WriteTaken r.tag k o s u (s.takeWrite i r k v) := by
  have hres : (u.setResult k o).rt = u.rt := rfl
  have ha := State.answerWrite_at (i := i) (o := o) (s := u.setResult k o) hw hh
  have hk := State.answerWrite_keeps i r o (u.setResult k o)
  have hses : ((u.setResult k o).answerWrite i r o).session = (u.setResult k o).session := hk.session (by decide)
  refine ⟨i, hi, ?_, ?_, ?_⟩ <;> simp only [State.takeWrite, hu]
  · exact ha.congr rfl (State.restartIdle_rt _)
  · unfold State.restartIdle
    simp only [hses]
    split <;> rename_i hop <;> simp_all [State.setResult, Session.afterWrite, Session.restarted]
  · exact (State.restartIdle_keeps _).after (by decide) (hk.after (by decide)
      (Keeps.with_session (t := u) (by decide) (Keeps.refl _ _)))

/-- A write of one whole word to a word of write access, with the session OPEN: what its owner does, and then the decisions for the
three words that can make some ready. The 18 rows of LAWS that are a write to one word all run through this. -/
theorem State.acceptWordWrite_ready {s : State} {tag : Tag} {k : Nat} {v : Word} {i : SlotId}
    (h : s.apertureReady tag = true) (hk : k < 64) (hacc : wordAccess k = .writeOnly ∨ wordAccess k = .readWrite)
    (hi : s.freeSlot = some i) :
    s.acceptWordWrite tag k v =
      if mayReady k then (s.takeWrite i (s.wordWrite tag k v) k v).settle else s.takeWrite i (s.wordWrite tag k v) k v := by
  have haddr : (s.wordWrite tag k v).address.toNat = s.session.base / 8 + k := State.wordAddress h hk
  obtain ⟨_, _, _, hmod, _⟩ := State.apertureReady_spec h
  have hm : Request.malformed (s.wordWrite tag k v) = false := by
    have hf : (s.wordWrite tag k v).firstWord < 8 := by simp only [Request.firstWord]; omega
    have hl : (s.wordWrite tag k v).length.val = 1 := rfl
    simp only [Request.malformed, Bool.or_eq_false_iff, decide_eq_false_iff_not, beq_eq_false_iff_ne, hl]
    omega
  unfold State.acceptWordWrite
  rw [State.accept_aperture (r := s.wordWrite tag k v) h hk haddr hm hi]
  have hk' : (s.wordWrite tag k v).address.toNat - s.session.base / 8 = k := by omega
  have htk : takesAccess (s.wordWrite tag k v) k = true := by
    rcases hacc with h | h <;> simp [takesAccess, h, State.wordWrite]
  have hd : (s.wordWrite tag k v).access.data = [v] := rfl
  unfold State.accessAperture
  simp only [hk', htk, hd, if_true]

/-- The words whose owners make no decision ready: one state u, one answer. -/
theorem State.acceptWordWrite_taken {s u : State} {tag : Tag} {k : Nat} {v : Word} {o : ResultOutcome}
    (h : s.apertureReady tag = true) (hk : k < 64) (hacc : wordAccess k = .writeOnly ∨ wordAccess k = .readWrite)
    (hr : mayReady k = false) (hu : s.writeWord k v = (o, u)) (hh : u.rt.holding = s.rt.holding) :
    WriteTaken tag k o s u (s.acceptWordWrite tag k v) := by
  obtain ⟨_, ⟨i, hi⟩, hhold⟩ := State.accepting_spec (State.apertureReady_spec h).1
  rw [State.acceptWordWrite_ready h hk hacc hi, hr]
  exact State.takeWrite_taken (r := s.wordWrite tag k v) rfl hi hu (hh.trans hhold)

/-- The words whose owners can make decisions ready (RETIRE, COPY_ABORT, SOFT_RESET): the answer, then the decisions. -/
theorem State.acceptWordWrite_settled {s u : State} {tag : Tag} {k : Nat} {v : Word} {o : ResultOutcome}
    (h : s.apertureReady tag = true) (hk : k < 64) (hacc : wordAccess k = .writeOnly ∨ wordAccess k = .readWrite)
    (hr : mayReady k = true) (hu : s.writeWord k v = (o, u)) (hh : u.rt.holding = s.rt.holding) :
    ∃ t, s.acceptWordWrite tag k v = t.settle ∧ WriteTaken tag k o s u t := by
  obtain ⟨_, ⟨i, hi⟩, hhold⟩ := State.accepting_spec (State.apertureReady_spec h).1
  refine ⟨s.takeWrite i (s.wordWrite tag k v) k v, ?_, State.takeWrite_taken (r := s.wordWrite tag k v) rfl hi hu
    (hh.trans hhold)⟩
  rw [State.acceptWordWrite_ready h hk hacc hi, hr]
  simp

/-- A refused write of a word leaves everything but the answer, RESULT and the idle timer. -/
theorem State.acceptWordWrite_refused {s : State} {tag : Tag} {k : Nat} {v : Word} {o : ResultOutcome}
    (h : s.apertureReady tag = true) (hk : k < 64) (hacc : wordAccess k = .writeOnly ∨ wordAccess k = .readWrite)
    (hr : mayReady k = false) (hu : s.writeWord k v = (o, s)) (ho : o ≠ .done) :
    WriteRefused tag k o s (s.acceptWordWrite tag k v) :=
  ⟨ho, State.acceptWordWrite_taken h hk hacc hr hu rfl⟩

end Sys2Proof.Machine
end

