-- ==== Sys2Proof/Laws/Claims.lean ====
section
/-! SUPPORT. The vocabulary of the statements against the operations it speaks of: what a claim is free of, which entries of an engine
remain, the votes on an op's words. -/

namespace Sys2Proof.Machine

open Sys2Proof

/-! ## Claims and locks -/

/-- Every slot number is in the list of them. -/
theorem SlotId.mem_all (i : SlotId) : i ∈ SlotId.all := by
  revert i; decide

theorem State.slotIs_iff (s : State) (i : SlotId) (block : Nat) (st : SlotState) :
    s.slotIs i block st = true ↔ ∃ sl, s.slot i = some sl ∧ sl.route = .memory ∧ sl.block = block ∧ sl.state = st := by
  unfold State.slotIs
  cases s.slot i with
  | none => simp
  | some sl => simp [and_assoc]

theorem State.issuedFor_iff (s : State) (block : Nat) : s.issuedFor block = true ↔ s.IssuedFor block := by
  simp only [State.issuedFor, List.any_eq_true, State.slotIs_iff, State.IssuedFor]
  exact ⟨fun ⟨i, _, sl, h⟩ => ⟨i, sl, h⟩, fun ⟨i, sl, h⟩ => ⟨i, SlotId.mem_all i, sl, h⟩⟩

theorem State.heldByOther_iff (s : State) (e : Engine) (block : Nat) : s.heldByOther e block = true ↔ s.OtherHolds e block := by
  simp only [State.heldByOther, State.heldBy, State.OtherHolds, List.any_eq_true, Bool.and_eq_true, bne_iff_ne, beq_iff_eq]
  exact ⟨fun ⟨e', _, h⟩ => ⟨e', h⟩, fun ⟨e', h⟩ => ⟨e', by cases e' <;> simp, h⟩⟩

theorem State.draining_iff (s : State) (block : Nat) : s.draining block = true ↔ s.Drains block := by
  simp only [State.draining, State.Drains, Bool.or_eq_true, beq_iff_eq]
  constructor
  · rintro ((h | h) | h)
    exacts [⟨_, h⟩, ⟨_, h⟩, ⟨_, h⟩]
  · rintro ⟨e, h⟩
    cases e
    exacts [.inl (.inl h), .inl (.inr h), .inr h]

/-- RT may grant a claim exactly when nothing of R39 holds it back. -/
theorem State.canGrant_iff (s : State) (e : Engine) (block : Nat) : s.canGrant e block = true ↔ s.ClaimFree e block := by
  simp only [State.canGrant, State.ClaimFree, ← State.issuedFor_iff, ← State.heldByOther_iff, ← State.draining_iff]
  simp [and_assoc]

/-- A pending claim is granted exactly when nothing holds it back and none of higher rank is pending. -/
theorem State.claimWins_iff (s : State) (e : Engine) (block : Nat) :
    s.claimWins e block = true ↔ s.ClaimFree e block ∧ ¬s.Outranked e block := by
  simp only [State.claimWins, Bool.and_eq_true, State.canGrant_iff, State.Outranked, State.claims]
  cases e <;> simp

theorem State.hasOpsFor_iff (s : State) (e : Engine) (block : Nat) : s.hasOpsFor e block = true ↔ s.OpsRemain e block := by
  simp only [State.hasOpsFor, State.OpsRemain, List.any_eq_true, Bool.and_eq_true, beq_iff_eq]
  exact ⟨fun ⟨r, _, h⟩ => ⟨r, h⟩, fun ⟨r, h⟩ => ⟨r, Replica.mem_all r, h⟩⟩

/-- A claim with no other claim pending on its block is only noted. -/
theorem State.claim_of_noOtherClaim (s : State) (e : Engine) (block : Nat) (h : s.NoOtherClaim e block) :
    s.claim e block = s.setLock e { s.lock e with claim := some block } := by
  have free : ∀ e', e' ≠ e → s.grantEarlier e' block = s := fun e' he => by
    simp [State.grantEarlier, State.claims, h e' he]
  cases e <;> simp [State.claim, free]

/-- Ops of an engine remain only for the block it holds or for the block of its draining hold. -/
theorem State.HoldsWf.of_opsRemain {s : State} (h : s.HoldsWf) {e : Engine} {block : Nat} (ops : s.OpsRemain e block) :
    (s.lock e).held = some block ∨ (s.lock e).draining = some block := by
  obtain ⟨r, x, mem, owner, rfl⟩ := ops
  cases gone : x.ownerGone
  · exact .inl (h.live e r x mem owner gone).1
  · exact .inr (h.gone e r x mem owner gone)

/-- A block is under an engine's draining hold exactly when that engine does not hold it and ops of the engine for it remain. -/
theorem State.HoldsWf.draining_iff {s : State} (h : s.HoldsWf) (e : Engine) (block : Nat) :
    (s.lock e).draining = some block ↔ (s.lock e).held ≠ some block ∧ s.OpsRemain e block :=
  ⟨fun d => ⟨fun held => h.undrained e block held ⟨e, d⟩, h.drains e block d⟩,
    fun ⟨free, ops⟩ => (h.of_opsRemain ops).resolve_left free⟩

/-- An engine with a live entry has no draining hold. -/
theorem State.HoldsWf.draining_of_live {s : State} (h : s.HoldsWf) {e : Engine} {r : Replica} {x : IssueEntry}
    (mem : x ∈ (s.port r).list) (owner : x.op.owner = .engine e) (live : x.ownerGone = false) : (s.lock e).draining = none := by
  refine Option.eq_none_iff_forall_ne_some.mpr fun block d => ?_
  obtain ⟨q, y, mem', owner', same⟩ := h.drains e block d
  have alive : y.ownerGone = false := (h.alike e r q x mem y mem' owner owner').symm.trans live
  exact h.undrained e block (same ▸ (h.live e q y mem' owner' alive).1) ⟨e, d⟩

/-! ## The words of an op -/

theorem State.wordsAt_contributing (s : State) (answers : Tri (Option OpAnswer)) (k : Nat) (r : Replica) :
    (wordsAt (s.contributing answers) k).get r = s.valueOf answers k r := by
  simp only [wordsAt, State.contributing, State.valueOf, Tri.get_ofFn]
  rcases answers.get r with _ | (_ | words | _ | _) <;> simp
  split <;> simp

/-- The outcomes an engine's decision votes on are the votes on its words, one by one (R63, R85). -/
theorem State.voteWords_contributing (s : State) (answers : Tri (Option OpAnswer)) (n : Nat) :
    voteWords (s.contributing answers) n = (List.range n).map (s.wordVote answers) := by
  simp only [voteWords]
  refine List.map_congr_left fun k _ => congrArg voteWord (Tri.ext_get fun r => ?_)
  rw [State.wordsAt_contributing]
  cases r <;> rfl

theorem State.contributors_iff (s : State) (answers : Tri (Option OpAnswer)) (r : Replica) :
    (contributors (s.contributing answers)).get r = true ↔ s.Contributes answers r := by
  simp only [contributors, State.contributing, State.Contributes, Tri.get_ofFn]
  rcases answers.get r with _ | (_ | words | _ | _) <;> simp

theorem answeredBad_iff (answers : Tri (Option OpAnswer)) (r : Replica) :
    (answeredBad answers).get r = true ↔ AnsweredBadly answers r := by
  simp [answeredBad, answered, AnsweredBadly]

theorem readyOp_eq_stageOf (named : ReplicaSet) : readyOp named = stageOf named := by
  obtain ⟨a, b, c⟩ := named
  cases a <;> cases b <;> cases c <;> rfl

/-! ## The active repair at the end of a copy -/

@[simp] theorem State.repair_copyForget (s : State) : s.copyForget.repair = { s.repair with target := none } := rfl
@[simp] theorem State.rt_copyForget (s : State) : s.copyForget.rt = s.rt := rfl
@[simp] theorem State.ports_copyForget (s : State) : s.copyForget.ports = s.ports := rfl
@[simp] theorem State.health_copyForget (s : State) : s.copyForget.health = s.health := rfl
@[simp] theorem State.copy_copyForget (s : State) : s.copyForget.copy = s.copy := rfl

end Sys2Proof.Machine
end

