-- ==== Sys2Proof/Tests/Slice0.lean ====
section
/-! SUPPORT. Tests: the terms WellFormed refuses, small checks of the meanings against the worked examples of the chapters, and for
every statement that has hypotheses a state and operands that meet them, at the ends of each clause's range. -/

namespace Sys2Proof.Tests

open Sys2Proof Sys2Proof.Machine

/-! ## Small states -/

/-- The state a command leaves; the same state where it leaves none. -/
def after (c : Instr) (s : State) : State :=
  match exec c s with
  | .next t => t
  | .fault _ | .refused _ => s

/-- State.reset with the session OPEN. -/
def opened : State :=
  { State.reset with session := { State.reset.session with state := .opened, idleTimer := some 8192 } }

/-- The same with RESET_N asserted. -/
def inReset : State := { State.reset with pins := { State.reset.pins with resetAsserted := true } }

/-- A state with one account changed. -/
def withAccount (r : Replica) (st : AccountState) (score : Nat) (s : State) : State :=
  s.setAccount r { s.account r with state := st, score := score }

/-- The session OPEN, B and C retired: A is the one voting replica. -/
def alone : State := withAccount .b .retired 0 (withAccount .c .retired 0 opened)

/-- The session OPEN, nobody votes. -/
def nobody : State := withAccount .a .retired 0 alone

/-- A slot of block 5 whose phase was granted. -/
def slotOf (kind : Kind) (st : SlotState) (voters : Tri (Option VoterEntry)) : Slot :=
  { state := st, tag := 3, kind := kind, block := 5, firstWord := 0, length := 1,
    enables := (match kind with | .read => [] | .write => [Enables.all]),
    data := (match kind with | .read => [] | .write => [9]), route := .memory, policy := some .vote, fastPhase := .none,
    firstAnswer := none, awaiting := false, targets := ⟨true, true, true⟩, voters := voters, status := none, reason := none,
    failedMask := 0, words := [] }

/-- A voter's entry. -/
def voter (x : OpAnswer) : Option VoterEntry := some ⟨.voter, x⟩

/-- A state with slot 0 holding a request, the only one in the acceptance order list. -/
def withSlot (sl : Slot) (s : State) : State :=
  let s := s.setSlot 0 (some sl)
  { s with rt := { s.rt with acceptOrder := [0] } }

/-- An entry of an issue list for block 5. -/
def entryOf (owner : Owner) (kind : Kind) (origin : Origin) (deadline : Nat) : IssueEntry :=
  { op :=
      { owner := owner, kind := kind, block := 5, firstWord := 0, length := 1, enables := [], data := [], origin := origin }
    ownerGone := false, deadline := deadline, accepted := false }

/-- A state with one issue list replaced. -/
def withList (r : Replica) (l : List IssueEntry) (s : State) : State := s.setPort r { s.port r with list := l }

/-- A READ of block 5 issued to three ports, B and C answered, A's answer to come with two ticks left. -/
def reading : State :=
  withList .a [entryOf (.slot 0) .read .upstreamRead 2]
    (withSlot (slotOf .read .issued ⟨voter .pending, voter (.ok [7]), voter (.ok [7])⟩) State.reset)

/-- The same with A's deadline reached. -/
def expired : State := withList .a [entryOf (.slot 0) .read .upstreamRead 0] reading

/-- A READ of block 5 that waits for its grant. -/
def offering : State := withSlot (slotOf .read .ready ⟨none, none, none⟩) State.reset

/-- The copy engine fills descriptor 0, blocks 0 to 2. -/
def filling : State :=
  { opened with
    copy := { opened.copy with kind := .fill 0, state := .running, step := .claim, pattern := 1, pointer := 0, endBlock := 2 }
    regions :=
      { opened.regions with
        descriptors := opened.regions.descriptors.set 0 { enabled := true, first := 0, last := 2, mode := .vote, scrub := true }
        fillMark := some 0 }
    rt := { opened.rt with locks := { opened.rt.locks with copy := { EngineLock.empty with claim := some 0 } } } }

/-- Descriptor 0 covers blocks 0 to 2; no fill runs. -/
def regioned : State := { opened with regions := { filling.regions with fillMark := none } }

/-- C is RETIRED and its port OFF. -/
def spare : State :=
  let s := withAccount .c .retired 5 opened
  s.setPort .c { s.port .c with state := .off }

/-- C is being rebuilt, STARTING, its port ABORTING with one tick left. -/
def starting : State :=
  let s := withAccount .c .rebuilding 0 opened
  let s := s.setPort .c { s.port .c with state := .aborting, abortLimit := some 1, abort := true }
  { s with copy := { s.copy with kind := .rebuild .c, state := .starting, endBlock := 262143 } }

/-- The same with C's abort limit reached. -/
def dying : State := starting.setPort .c { starting.port .c with abortLimit := some 0 }

/-- C is being rebuilt, the copy engine writes block 5 under its lock. -/
def rebuilding : State :=
  let s := withAccount .c .rebuilding 0 opened
  { s with
    copy :=
      { s.copy with kind := .rebuild .c, state := .running, step := .write, pointer := 5, endBlock := 262143, op := .ready (Tri.only .c) }
    rt := { s.rt with locks := { s.rt.locks with copy := { EngineLock.empty with held := some 5 } } } }

/-- A fault record of block 5. -/
def record (sequence repeats : Nat) : FaultRecord :=
  { sequence := sequence, kind := .timeout, origin := .scrub, block := 5, word := none, mask := Tri.only .a, repeats := repeats,
    queued := false }

/-- A record list of n records of different blocks. -/
def recordsOf (n : Nat) : Records :=
  { list := (List.range n).map fun k => { record k 1 with block := k }, nextSeq := n, lost := 254 }

/-- The session OPEN with a record list. -/
def recorded (l : Records) : State := { opened with records := l }

/-- A queue of n entries of different blocks that all name A. -/
def queueOf (n : Nat) : List QueueEntry := (List.range n).map fun k => { block := k, mask := Tri.only .a, attempts := 0 }

/-- The session OPEN with a queue of n entries. -/
def queued (n : Nat) : State := opened.setQueue (queueOf n)

/-- The walker's timer has run out. -/
def walking (st : WalkerState) (s : State) : State :=
  { s with scrub := { s.scrub with state := st, on := true, timer := some 0 } }

/-- The decay timer has run out. -/
def decaying (s : State) : State := { s with health := { s.health with decayTimer := 0 } }

/-- The session OPEN, its idle timer run out. -/
def idled : State := { opened with session := { opened.session with idleTimer := some 0 } }

/-- The repair engine in a phase of block 5. -/
def repairing (phase : RepairPhase) (op : OpStage) (lock : EngineLock) : State :=
  { State.reset with
    repair :=
      { Repair.idle with
        phase := phase, block := 5, mask := Tri.only .a, sources := ⟨false, true, true⟩, op := op
        values := [7, 7, 7, 7, 7, 7, 7, 7], writeSet := ⟨some (.ok []), none, none⟩ }
    rt := { State.reset.rt with locks := { State.reset.rt.locks with repair := lock } } }

/-- A lock that holds block 5. -/
def holds5 : EngineLock := { EngineLock.empty with held := some 5 }

/-- A claim on block 5. -/
def claims5 : EngineLock := { EngineLock.empty with claim := some 5 }

/-- The walker's claim on block 5 beside the locks given. -/
def scrubClaiming (repair : EngineLock) : State :=
  { State.reset with
    scrub := { State.reset.scrub with state := .claiming, pointer := 5, on := true }
    rt := { State.reset.rt with locks := { repair := repair, copy := EngineLock.empty, scrub := claims5 } } }

/-- A READ of one word at a word address. -/
def readAt (tag : Tag) (address : Nat) : Request :=
  { tag := tag, address := BitVec.ofNat 32 address, length := 1, access := .read }

/-- A WRITE of one whole word at a word address. -/
def writeAt (tag : Tag) (address : Nat) (v : Word) : Request :=
  { tag := tag, address := BitVec.ofNat 32 address, length := 1, access := .write [Enables.all] [v] }

/-- RESULT's word and outcome. -/
def result (s : State) : Nat × ResultOutcome := (s.session.resultWord, s.session.resultOutcome)

/-! ## What WellFormed refuses -/

theorem test_wellFormed_refuses_missing_data :
    (Instr.requestAccept { tag := 0, address := 0, length := 2, access := .write [Enables.all, Enables.all] [1] }).wellFormed
      = false := by decide

theorem test_wellFormed_refuses_missing_enables :
    (Instr.requestAccept { tag := 0, address := 0, length := 2, access := .write [Enables.all] [1, 2] }).wellFormed = false := by
  decide

theorem test_wellFormed_refuses_aperture_write_lists :
    (Instr.apertureWrite 0 16 1 [Enables.all, Enables.all] [1, 2]).wellFormed = false := by decide

theorem test_wellFormed_takes_requests :
    (Instr.requestAccept (readAt 0 5)).wellFormed = true ∧ (Instr.requestAccept (writeAt 15 5 1)).wellFormed = true
      ∧ (Instr.apertureWrite 0 16 0 [] []).wellFormed = true := by decide

theorem test_illFormed_requests_are_refused_by_name :
    exec (.requestAccept { tag := 0, address := 0, length := 1, access := .write [] [] }) State.reset
        = .refused (.illFormedRequest "REQUEST_ACCEPT")
      ∧ exec (.apertureWrite 0 16 1 [] []) opened = .refused (.illFormedRequest "APERTURE_WRITE") := ⟨rfl, rfl⟩

theorem test_no_word_spells_a_command : decodeTableWord 8 0 = none ∧ decodeTableWord 64 5 = none := by decide

/-! ## Steps, ticks and resets -/

theorem test_step_takes_the_front :
    step (State.reset.withPending [.decayExpiry, .repairTake]) = exec .decayExpiry (State.reset.withPending [.repairTake]) := rfl

theorem test_tick_makes_the_expiry_due :
    (match step { reading with health := { reading.health with decayTimer := 1 } } with
      | .next t => t.pending
      | _ => []) = [.decayExpiry] := by decide

theorem witness_EmptyQueueStepPassesOneTick :
    State.reset.pending = [] ∧ State.reset.pins.resetAsserted = false ∧ inReset.pending = []
      ∧ inReset.pins.resetAsserted = true := by decide

theorem witness_WellFormedCommandsComplete :
    (Instr.apertureWrite 0 63 15 (List.replicate 15 0) (List.replicate 15 0)).wellFormed = true
      ∧ (Request.mk 0 0 1 (.write [] [0])).wellFormed = false
      ∧ (Access.write [] [0]).wellFormed 1 = false := by decide

theorem witness_ImpossibleEventsChangeNothing :
    inReset.accepting = false ∧ (readAt 0 5).wellFormed = true ∧ (Access.write [Enables.all] [0]).wellFormed 1 = true
      ∧ wordRow (.close 3 0) = some (3, 62, 0)
      ∧ State.reset.rt.channel = none ∧ State.reset.arbiter = none ∧ (starting.port .c).state = .aborting
      ∧ (State.reset.port .a).list = [] ∧ (State.reset.port .a).state ≠ .aborting
      ∧ (repairing .verify (.ready (Tri.only .a)) holds5).repair.phase ≠ .read
      ∧ (reading.port .a).list.map (·.deadline) = [2] ∧ (starting.port .c).abortLimit ≠ some 0
      ∧ (State.reset.lock .copy).claim = none ∧ State.reset.queue = []
      ∧ (repairing .claim .none claims5).repair.phase ≠ .idle ∧ State.reset.scrub.timer ≠ some 0
      ∧ (scrubClaiming EngineLock.empty).scrub.state = .claiming
      ∧ State.reset.session.state ≠ .opened ∧ opened.session.idleTimer ≠ some 0 ∧ inReset.pins.resetAsserted = true
      ∧ State.reset.health.decayTimer ≠ 0 ∧ State.reset.pins.resetAsserted = false := by decide

theorem test_an_expiry_before_its_time_changes_nothing :
    after (.portTimeout .a) reading = reading ∧ after (.portDead .c) starting = starting
      ∧ after .decayExpiry State.reset = State.reset ∧ after .sessionIdleExpiry opened = opened := by decide

theorem test_an_answer_before_the_expiry_is_no_timeout :
    let answered := after (.portAnswer .a (.data (Vector.replicate 8 7))) (withList .a
      [entryOf (.slot 0) .read .upstreamRead 0, entryOf (.slot 1) .read .upstreamRead 3] reading)
    let t := after (.portTimeout .a) answered
    t = answered ∧ (t.port .a).state = .ready ∧ (t.account .a).score = 0 := by decide

theorem witness_DecisionsFollowTheirEvent :
    State.reset.ready = []
      ∧ (withSlot (slotOf .read .issued ⟨voter (.ok [7]), voter (.ok [7]), voter (.ok [7])⟩) State.reset).ready = [.slot 0]
      ∧ ((withSlot (slotOf .read .issued ⟨none, none, none⟩) State.reset).setSlot 1
          (some { slotOf .read .issued ⟨none, none, none⟩ with tag := 4, block := 6 })).ready.length = 2 := by decide

theorem test_settle_ends_with_nothing_ready :
    (withSlot (slotOf .read .issued ⟨voter (.ok [7]), voter (.ok [7]), voter (.ok [7])⟩) State.reset).settle.ready = [] := by
  decide

theorem test_hardwareReset_with_b_absent :
    let t := after (.hardwareReset ⟨3, ⟨true, false, true⟩, true⟩) opened
    (t.account .b).state = .retired ∧ (t.account .b).reason = .absent ∧ (t.port .b).state = .off
      ∧ t.alerts.causes.degraded.latch = true ∧ t.alerts.asserted = false ∧ t.session.base = 1073741312 := by decide

theorem test_resetNRelease_asserts_the_line :
    (after .resetNRelease (after (.hardwareReset ⟨0, ⟨true, false, true⟩, true⟩) opened)).alerts.asserted = true := by decide

theorem witness_HardwareResetRestoresEveryBlock : inReset.pins.resetAsserted = true := by decide

/-! ## Requests -/

theorem test_requestAccept_places_a_read :
    let t := after (.requestAccept (readAt 7 41)) State.reset
    (t.slot 0).map (fun sl => (sl.state, sl.block, sl.firstWord, sl.policy)) = some (.ready, 5, 1, some .vote)
      ∧ t.rt.acceptOrder = [0] := by decide

theorem test_requestAccept_holds_a_tag_in_use :
    (after (.requestAccept (readAt 3 0)) offering).rt.holding = some 3 := by decide

theorem witness_RefusedRequestsAreAnswered_tag :
    (readAt 3 0).wellFormed = true ∧ offering.accepting = true ∧ offering.tagInUse 3 = true
      ∧ offering.rt.channel = none ∧ (readAt 3 0).access.kind = .read ∧ (writeAt 3 0 0).access.kind = .write := by decide

theorem witness_RefusedRequestsAreAnswered_channel :
    let s := { offering with rt := { offering.rt with channel := some ⟨.slot 1, refusedResponse 1 .malformed⟩ } }
    s.accepting = true ∧ s.tagInUse 3 = true ∧ s.rt.channel.isSome = true := by decide

theorem witness_RefusedRequestsAreAnswered :
    State.reset.acceptsTag 0 = true ∧ State.reset.freeSlot = some 0
      ∧ State.reset.refusal { readAt 0 0 with length := 9 } = some .malformed
      ∧ State.reset.refusal { readAt 0 7 with length := 2 } = some .malformed
      ∧ State.reset.refusal (readAt 0 (262144 * 8)) = some .outOfSpan
      ∧ filling.refusal (readAt 0 23) = some .filling ∧ filling.acceptsTag 0 = true
      ∧ filling.refusal (readAt 0 24) = none := by decide

theorem witness_MemoryRequestTakesSlot :
    State.reset.refusal (readAt 0 (262144 * 8 - 1)) = none ∧ State.reset.inAperture (readAt 0 (262144 * 8 - 1)) = false
      ∧ offering.refusal (readAt 0 40) = none ∧ offering.acceptsTag 0 = true ∧ offering.freeSlot = some 1
      ∧ opened.inAperture (readAt 0 (262136 * 8 - 1)) = false := by decide

theorem witness_ApertureAccessAnswered :
    opened.apertureReady 0 = true ∧ opened.freeSlot = some 0
      ∧ (readAt 0 (16776704 / 8 + 63)).address.toNat = opened.session.base / 8 + 63
      ∧ Request.malformed (readAt 0 (16776704 / 8 + 63)) = false
      ∧ takesAccess (readAt 0 (16776704 / 8)) 0 = true ∧ takesAccess (readAt 0 (16776704 / 8 + 63)) 63 = true
      ∧ takesAccess (readAt 0 (16776704 / 8 + 62)) 62 = false ∧ takesAccess (writeAt 0 (16776704 / 8 + 63) 0) 63 = false
      ∧ takesAccess (writeAt 0 (16776704 / 8 + 62) 0) 62 = true
      ∧ wordRow (.close 0 0) = some (0, 62, 0) := by decide

theorem test_aperture_read_of_IDENT :
    ((after (.requestAccept (readAt 0 (16776704 / 8))) opened).slot 0).map (·.words) = some [0x3C010364#64] := by decide

theorem witness_ApertureAccessAnswered_write :
    (Access.write [Enables.all] [5]).wellFormed 1 = true ∧ opened.apertureReady 0 = true ∧ opened.freeSlot = some 0
      ∧ wordRow (.stageWrite 0 0 5) = some (0, 16, 5)
      ∧ (Access.write [0x7F#8] [5]).wellFormed 1 = true
      ∧ (Access.write (List.replicate 8 Enables.all) (List.replicate 8 0)).wellFormed 8 = true
      ∧ wordAccess 14 = .unused ∧ wordAccess 61 = .unused ∧ wordAccess 63 = .readOnly ∧ wordAccess 0 = .readOnly := by decide

theorem test_apertureWrite_with_an_enable_clear_is_refused :
    let t := after (.apertureWrite 0 16 1 [0x7F#8] [5]) opened
    (t.slot 0).map (fun sl => (sl.status, sl.reason)) = some (some .refused, some .apertureInvalid)
      ∧ result t = (0, .none) := by decide

theorem test_knock_arms_and_opens :
    let armed := after (.requestAccept (writeAt 0 2097151 Word.ones)) State.reset
    armed.session.state = .armed ∧ (after (.requestAccept (writeAt 1 2097151 0)) armed).session.state = .opened := by decide

theorem witness_SessionFollowsKnockAndCloses_knock :
    State.reset.session.state = .closed ∧ opened.session.state = .opened
      ∧ State.reset.session.isKnock (writeAt 0 2097151 Word.ones) false Word.ones = true
      ∧ State.reset.session.isKnock (writeAt 0 2097151 0) false 0 = true
      ∧ State.reset.session.isKnock (writeAt 0 2097150 0) false 0 = false
      ∧ State.reset.session.isKnock (writeAt 0 2097151 1) false Word.ones = false := by decide

theorem test_responseTaken_presents_the_next :
    let full := after (.requestAccept { readAt 1 0 with length := 0 }) (after (.requestAccept { readAt 0 0 with length := 0 }) State.reset)
    let t := after .responseTaken full
    full.rt.answerOrder = [1] ∧ t.slot 0 = none ∧ (t.rt.channel).map (·.source) = some (.slot 1) := by decide

theorem witness_ResponseTakenFreesItsPlace :
    let slotAnswer := { State.reset with rt := { State.reset.rt with channel := some ⟨.slot 0, refusedResponse 0 .malformed⟩ } }
    let place := { State.reset with
      rt := { State.reset.rt with holding := some 2, channel := some ⟨.holding, refusedResponse 2 .tagInUse⟩ } }
    let both := { slotAnswer with rt := { slotAnswer.rt with holding := some 2 } }
    slotAnswer.rt.channel.isSome = true ∧ (after .responseTaken slotAnswer).rt.holding = none
      ∧ place.rt.channel.isSome = true ∧ (after .responseTaken place).rt.holding = none
      ∧ (after .responseTaken both).rt.holding = some 2 := by decide

/-! ## Grants -/

theorem test_upstreamGrant_issues_to_three_ports :
    let t := after .upstreamGrant offering
    (t.slot 0).map (·.state) = some .issued ∧ (∀ r ∈ Replica.all, (t.port r).list.length = 1) ∧ t.ports.runCount = 0 := by
  decide

theorem witness_UpstreamGrantIssuesSlot :
    offering.arbiter = some (.upstream 0) ∧ (offering.slot 0).isSome = true
      ∧ (withSlot { slotOf .write .ready ⟨none, none, none⟩ with block := 4 } rebuilding).arbiter = some (.upstream 0) := by decide

theorem test_a_ready_request_waits_behind_a_pending_claim :
    let s := withSlot (slotOf .read .ready ⟨none, none, none⟩) (repairing .claim .none claims5)
    s.arbiter = none ∧ after .upstreamGrant s = s
      ∧ ((after (.blockClaimGrant .repair) s).lock .repair).held = some 5 := by decide

/-- A FAST read's slot. -/
def fastSlot (phase : FastPhase) : Slot :=
  { slotOf .read .ready ⟨none, none, none⟩ with policy := some .fast, fastPhase := phase }

theorem test_fast_read_asks_the_lowest_score :
    let s := withSlot (fastSlot .first) (withAccount .a .healthy 9 State.reset)
    ((after .upstreamGrant s).slot 0).map (fun sl => sl.voters) = some ⟨none, voter .pending, none⟩ := by decide

theorem witness_ArbiterFollowsItsOrder :
    offering.offered = some 0 ∧ offering.topEngine = none ∧ offering.ports.runCount < 16
      ∧ rebuilding.topEngine = some .copy ∧ rebuilding.offered = none
      ∧ (withSlot (slotOf .read .ready ⟨none, none, none⟩)
          { rebuilding with ports := { rebuilding.ports with runCount := 16 } }).arbiter = some (.engine .copy)
      ∧ State.reset.arbiter = none ∧ (∀ e ∈ [Engine.repair, .copy, .scrub], State.reset.engineCandidate e = false)
      ∧ (repairing .read (.ready (Tri.only .b)) holds5).engineCandidate .repair = true
      ∧ rebuilding.engineCandidate .repair = false ∧ rebuilding.engineCandidate .copy = true := by decide

/-- The walker reads block 5 under its lock. -/
def scrubbing : State :=
  { State.reset with
    scrub := { State.reset.scrub with state := .reading, pointer := 5, op := .ready ⟨true, true, true⟩ }
    rt := { State.reset.rt with locks := { State.reset.rt.locks with scrub := holds5 } } }

theorem witness_ArbiterFollowsItsOrder_scrub :
    scrubbing.engineCandidate .repair = false ∧ scrubbing.engineCandidate .copy = false
      ∧ scrubbing.engineCandidate .scrub = true := by decide

/-- The fill writes block 5 under its lock. -/
def fillWriting : State :=
  { filling with
    copy := { filling.copy with step := .write, op := .ready ⟨true, true, true⟩, pointer := 5 }
    rt := { filling.rt with locks := { filling.rt.locks with copy := holds5 } } }

/-- The rebuild reads block 5. -/
def rebuildReading : State :=
  { rebuilding with copy := { rebuilding.copy with step := .read, op := .ready ⟨true, true, false⟩ } }

theorem witness_EngineGrantsIssueTheirOps :
    (repairing .read (.ready (Tri.only .b)) holds5).arbiter = some (.engine .repair)
      ∧ (repairing .write (.ready (Tri.only .a)) holds5).arbiter = some (.engine .repair)
      ∧ (repairing .verify (.ready (Tri.only .a)) holds5).arbiter = some (.engine .repair)
      ∧ scrubbing.arbiter = some (.engine .scrub) ∧ fillWriting.arbiter = some (.engine .copy)
      ∧ rebuildReading.arbiter = some (.engine .copy) ∧ rebuilding.arbiter = some (.engine .copy) := by decide

theorem test_repairReadGrant_asks_the_sources :
    let t := after .repairReadGrant (repairing .read (.ready ⟨false, true, true⟩) holds5)
    t.repair.op = .out ⟨none, some .pending, some .pending⟩ ∧ (t.port .a).list = [] ∧ (t.port .b).list.length = 1 := by decide

theorem test_repairReadGrant_leaves_out_a_retired_source :
    let t := after .repairReadGrant (withAccount .b .retired 0 (repairing .read (.ready ⟨false, true, true⟩) holds5))
    t.repair.op = .out ⟨none, none, some .pending⟩ ∧ (t.port .b).list = [] := by decide

theorem test_repairWriteGrant_remembers_the_target :
    let s := repairing .write (.ready (Tri.only .a)) holds5
    let s := withAccount .c .rebuilding 0 { s with copy := { s.copy with kind := .rebuild .c, state := .running, pointer := 6 } }
    let t := after .repairWriteGrant s
    t.repair.target = some .c ∧ t.repair.op = .out ⟨some .pending, none, some .pending⟩
      ∧ (t.copyEnd .abortedCommand).repair.target = none := by decide

theorem test_repairWriteGrant_writes_the_mask :
    ((after .repairWriteGrant (repairing .write (.ready (Tri.only .a)) holds5)).port .a).list.map (·.op.data)
      = [[7, 7, 7, 7, 7, 7, 7, 7]] := by decide

theorem test_repairVerifyGrant_reads_back :
    (after .repairVerifyGrant (repairing .verify (.ready (Tri.only .a)) holds5)).repair.op = .out ⟨some .pending, none, none⟩ := by
  decide

theorem test_scrubReadGrant_reads_all_voters :
    (after .scrubReadGrant scrubbing).scrub.op = .out ⟨some .pending, some .pending, some .pending⟩ := by decide

theorem test_fillWriteGrant_writes_the_pattern :
    ((after .fillWriteGrant fillWriting).port .c).list.map (·.op.data) = [[1, 1, 1, 1, 1, 1, 1, 1]] := by decide

theorem test_rebuildReadGrant_reads_the_voters :
    (after .rebuildReadGrant rebuildReading).copy.op = .out ⟨some .pending, some .pending, none⟩ := by decide

theorem test_rebuildWriteGrant_writes_the_target :
    ((after .rebuildWriteGrant rebuilding).port .c).list.length = 1 ∧ ((after .rebuildWriteGrant rebuilding).port .a).list = [] := by
  decide

theorem test_blockClaimGrant_holds_back_a_ready_request :
    let s := withSlot (slotOf .read .ready ⟨none, none, none⟩) (repairing .claim .none claims5)
    let t := after (.blockClaimGrant .repair) s
    (t.slot 0).map (·.state) = some .waiting ∧ t.repair.phase = .read ∧ (t.lock .repair).held = some 5 := by decide

theorem test_blockClaimGrant_waits_for_an_issued_request :
    let s := withSlot (slotOf .read .issued ⟨voter .pending, none, none⟩) (repairing .claim .none claims5)
    after (.blockClaimGrant .repair) s = s := by decide

theorem witness_ClaimGrantLocksBlock :
    ((scrubClaiming EngineLock.empty).lock .scrub).claim = some 5
      ∧ ((scrubClaiming holds5).lock .repair).held = some 5
      ∧ ((scrubClaiming { EngineLock.empty with draining := some 5 }).lock .repair).draining = some 5
      ∧ ((scrubClaiming claims5).lock .repair).claim = some 5 ∧ (filling.lock .copy).claim = some 0
      ∧ (after (.blockClaimGrant .scrub) (scrubClaiming EngineLock.empty)).scrub.state = .reading
      ∧ (after (.blockClaimGrant .scrub) (scrubClaiming holds5)).scrub.pointer = 6
      ∧ (after (.blockClaimGrant .repair) { scrubClaiming claims5 with
          repair := (repairing .claim .none claims5).repair }).scrub.pointer = 6 := by decide

theorem test_repairTake_lets_an_earlier_claim_be_granted :
    let s := { scrubClaiming EngineLock.empty with queue := [{ block := 5, mask := Tri.only .a, attempts := 0 }] }
    let t := after .repairTake s
    t.scrub.state = .reading ∧ (t.lock .scrub).held = some 5 ∧ (t.lock .repair).claim = some 5 := by decide

theorem witness_FreedBlocksGoToClaimsThenRequests :
    let waiting := withSlot (slotOf .read .waiting ⟨none, none, none⟩) State.reset
    let released := withList .a [entryOf (.engine .repair) .read .repair 4] (repairing .read .none holds5)
    let drained (l : List IssueEntry) := withList .a l (repairing .idle .none { EngineLock.empty with draining := some 5 })
    let gone := { entryOf (.engine .repair) .read .repair 4 with ownerGone := true }
    ((repairing .claim .none claims5).freeBlock 5).repair.phase = .read
      ∧ ((scrubClaiming EngineLock.empty).freeBlock 5).scrub.state = .reading
      ∧ ((filling.freeBlock 0).lock .copy).held = some 0
      ∧ ((waiting.freeBlock 5).slot 0).map (·.state) = some .ready ∧ waiting.freeBlock 6 = waiting
      ∧ ((released.releaseLock .repair).lock .repair).draining = some 5
      ∧ (((repairing .read .none holds5).releaseLock .repair).lock .repair) = EngineLock.empty
      ∧ (((drained []).goneLeft .repair 5).lock .repair).draining = none
      ∧ (drained [gone]).goneLeft .repair 5 = drained [gone] := by decide

theorem test_repairTake_fixes_the_sources :
    let t := after .repairTake (queued 2)
    t.repair.phase = .claim ∧ t.repair.sources = ⟨false, true, true⟩ ∧ t.queue.length = 1
      ∧ (t.lock .repair).claim = some 0 := by decide

theorem witness_RepairTakeTakesHead :
    (queued 1).repair.phase = .idle ∧ (queued 1).queue.length = 1 ∧ (queued 32).queue.length = 32 := by decide

/-! ## Ports -/

/-- The read's op on port A after n ops of another slot that its bank has taken. -/
def listed (accepted : Bool) : State :=
  withList .a
    [{ entryOf (.slot 1) .read .upstreamRead 4 with accepted := true },
     { entryOf (.slot 0) .read .upstreamRead 4 with accepted := accepted }] State.reset

theorem test_bankOpAccept_takes_the_oldest :
    ((after (.bankOpAccept .a) (listed false)).port .a).list.map (·.accepted) = [true, true] := by decide

theorem witness_BankAcceptsOldestUnacceptedOp :
    ((listed false).port .a).state = .ready ∧ ((listed false).port .a).list.map (·.accepted) = [true, false]
      ∧ ((listed true).port .a).list.all (·.accepted) = true := by decide

theorem test_portAnswer_outvotes_a :
    let t := after (.portAnswer .a (.data #v[8, 0, 0, 0, 0, 0, 0, 0])) reading
    (t.slot 0).map (fun sl => (sl.state, sl.status, sl.words)) = some (.answered, some .corrected, [7])
      ∧ t.queue = [{ block := 5, mask := Tri.only .a, attempts := 0 }] ∧ (t.account .a).score = 4
      ∧ t.records.list.map (fun x => (x.kind, x.word, x.mask, x.queued)) = [(.miscompare, some 0, Tri.only .a, true)] := by decide

theorem test_portAnswer_of_an_error :
    let t := after (.portAnswer .a .error) reading
    (t.slot 0).map (·.status) = some (some .clean) ∧ (t.account .a).score = 8
      ∧ t.records.list.map (·.kind) = [.readError] := by decide

theorem witness_PortAnswerGoesToHeadsOwner :
    (reading.port .a).state = .ready ∧ (reading.port .a).list.length = 1
      ∧ (reading.port .a).list.map (·.deadline) = [2]
      ∧ (listed false).slot 0 = none
      ∧ ((withList .a [entryOf (.slot 0) .read .upstreamRead 0] reading).port .a).list.map (·.deadline) = [0]
      ∧ (starting.port .c).state ≠ .ready ∧ (State.reset.port .a).list = [] := by decide

/-- Answers whose owners do not await them: a slot that is FREE, and an engine with no op out. -/
theorem witness_PortAnswerGoesToHeadsOwner_not_awaited :
    let s := withList .b [entryOf (.engine .repair) .read .repair 2] State.reset
    (listed false).slot 0 = none ∧ (after (.portAnswer .a .error) (listed false)).slot 0 = none
      ∧ s.engineOp .repair = .none ∧ after (.portAnswer .b .error) s = withList .b [] s := by decide

theorem witness_PortAnswerGoesToHeadsOwner_engine :
    let s := withList .b [entryOf (.engine .repair) .read .repair 2]
      (repairing .read (.out ⟨none, some .pending, some .pending⟩) holds5)
    s.engineOp .repair = .out ⟨none, some .pending, some .pending⟩ ∧ (s.port .b).state = .ready
      ∧ (after (.portAnswer .b (.data (Vector.replicate 8 1))) s).repair.op
          = .out ⟨none, some (.ok [1]), some .pending⟩ := by decide

theorem witness_PortAnswerGoesToHeadsOwner_gone :
    let s := withList .b [{ entryOf (.engine .repair) .read .repair 2 with ownerGone := true }]
      { State.reset with
        rt := { State.reset.rt with locks := { State.reset.rt.locks with repair := { EngineLock.empty with draining := some 5 } } } }
    (s.port .b).list.map (·.ownerGone) = [true]
      ∧ ((after (.portAnswer .b .error) s).lock .repair).draining = none := by decide

theorem test_portTimeout_charges_once_and_records :
    let t := after (.portTimeout .a) expired
    (t.port .a).state = .aborting ∧ (t.port .a).abort = true ∧ (t.account .a).score = 16
      ∧ (t.slot 0).map (·.status) = some (some .clean)
      ∧ t.records.list.map (fun x => (x.kind, x.origin, x.block)) = [(.timeout, .upstreamRead, 5)] := by decide

theorem witness_PortTimeoutTakesFiveSteps :
    (expired.port .a).state = .ready ∧ (expired.port .a).list.map (·.deadline) = [0] := by decide

theorem test_abortDone_starts_the_rebuild :
    let t := after (.abortDone .c) starting
    (t.port .c).state = .ready ∧ t.copy.state = .running ∧ (t.lock .copy).claim = some 0 := by decide

theorem witness_AbortDoneEndsAbort :
    (starting.port .c).abortDone = false ∧ (starting.port .c).state = .aborting ∧ starting.rebuildTarget = some .c
      ∧ starting.copy.state = .starting ∧ (State.reset.port .a).state ≠ .aborting ∧ (State.reset.port .a).abortDone = false
      ∧ ((after (.abortDone .a) State.reset).port .a).abortDone = true
      ∧ ((withAccount .c .retired 0 starting).port .c).state = .aborting
      ∧ ((after (.abortDone .c) { starting with copy := State.reset.copy }).port .c).state = .off := by decide

theorem test_abortDoneDeassert_lets_the_next_edge_count :
    ((after (.abortDoneDeassert .a) (after (.abortDone .a) State.reset)).port .a).abortDone = false := by decide

theorem test_portDead_ends_the_rebuild :
    let t := after (.portDead .c) dying
    (t.port .c).state = .off ∧ (t.account .c).reason = .rebuildFailed ∧ t.copy.outcome = .abortedTarget := by decide

/-- C is the one voting replica, its port's abort limit reached, and the fill runs. -/
def lastDying : State :=
  let s := withAccount .a .retired 0 (withAccount .b .retired 0 filling)
  s.setPort .c { s.port .c with state := .aborting, abortLimit := some 0, abort := true }

theorem test_portDead_of_the_last_voter_ends_the_copy :
    let t := after (.portDead .c) lastDying
    (t.account .c).reason = .portDead ∧ t.copy.outcome = .abortedSources ∧ t.regions.fillMark = none := by decide

theorem witness_DeadPortRetiresItsReplica :
    (dying.port .c).state = .aborting ∧ (dying.port .c).abortLimit = some 0 ∧ (dying.account .c).state = .rebuilding
      ∧ dying.rebuildTarget = some .c
      ∧ ((withAccount .c .healthy 0 dying).account .c).votes = true ∧ (withAccount .c .healthy 0 dying).votingCount ≠ 1
      ∧ (lastDying.port .c).abortLimit = some 0 ∧ lastDying.votingCount = 1 ∧ lastDying.copy.state ≠ .idle
      ∧ ((withAccount .c .retired 0 dying).account .c).state = .retired := by decide

/-- The last voting replica's port is dead, with no rebuild. -/
theorem witness_DeadPortRetiresItsReplica_rebuildWf :
    lastDying.RebuildWf ∧ (lastDying.account .c).votes = true ∧ (lastDying.port .c).state = .aborting := by
  refine ⟨fun r => ?_, by decide, by decide⟩
  cases r <;> decide

/-! ## Timers -/

theorem test_decayExpiry_clears_a_suspect :
    let t := after .decayExpiry (decaying (withAccount .a .suspect 17 (withAccount .b .suspect 18 State.reset)))
    (t.account .a).state = .healthy ∧ (t.account .a).score = 16 ∧ (t.account .b).state = .suspect
      ∧ (t.account .c).score = 0 := by decide

theorem witness_DecayLowersScores :
    let s := decaying (withAccount .a .suspect 17 (withAccount .b .suspect 18 spare))
    s.pins.resetAsserted = false ∧ s.health.decayTimer = 0 ∧ (s.account .c).votes = false ∧ (State.reset.account .a).state = .healthy
      ∧ (s.account .a).score - 1 ≤ s.health.thresholds.clearAt
      ∧ s.health.thresholds.clearAt < (s.account .b).score - 1 := by decide

theorem test_scrubIntervalExpiry_claims_the_first_block :
    let t := after .scrubIntervalExpiry (walking .waiting regioned)
    t.scrub.state = .claiming ∧ t.scrub.pointer = 0 ∧ (t.lock .scrub).claim = some 0 := by decide

theorem test_scrubIntervalExpiry_wraps :
    let s := walking .waiting regioned
    let t := after .scrubIntervalExpiry { s with scrub := { s.scrub with pointer := 3, passCount := 65535 } }
    t.scrub.state = .claiming ∧ t.scrub.pointer = 0 ∧ t.scrub.passCount = 0 := by decide

theorem witness_ScrubExpiryPausesOrClaims :
    (walking .waiting alone).votingCount < 2 ∧ (walking .paused (queued 24)).queue.length = 24
      ∧ (walking .paused (queued 24)).votingCount = 3 ∧ (walking .waiting (queued 23)).queue.length = 23
      ∧ (walking .waiting opened).scrub.timer = some 0
      ∧ (after .scrubIntervalExpiry (walking .waiting (queued 23))).scrub.reason = .noBlocks
      ∧ (after .scrubIntervalExpiry (walking .paused (queued 24))).scrub.reason = .queueHigh
      ∧ (after .scrubIntervalExpiry (walking .waiting alone)).scrub.reason = .fewReplicas
      ∧ regioned.regions.eligible 0 = true ∧ regioned.regions.eligible 2 = true ∧ regioned.regions.eligible 3 = false := by decide

theorem test_sessionIdleExpiry_closes :
    let t := after .sessionIdleExpiry idled
    t.session.state = .closed ∧ t.session.idleTimer = none ∧ t.alerts.causes.sessionExpired.latch = true := by decide

theorem test_an_access_before_the_idle_expiry_keeps_the_session :
    let t := after .sessionIdleExpiry (after (.requestAccept (readAt 0 (16776704 / 8))) idled)
    t.session.state = .opened ∧ t.session.idleTimer = some 8192 := by decide

theorem witness_SessionFollowsKnockAndCloses :
    idled.session.state = .opened ∧ idled.session.idleTimer = some 0 ∧ opened.apertureReady 15 = true := by decide

/-! ## Settings, staging and alert words -/

/-- A THRESHOLDS value. -/
def thresholdsValue (suspectAt clearAt retireAt : Nat) : Word :=
  BitVec.ofNat 64 (suspectAt + clearAt * 1024 + retireAt * 1048576)

theorem witness_StageWriteReplacesStagingWord : opened.apertureReady 0 = true ∧ opened.apertureReady 15 = true := by decide

theorem test_stageWrite_replaces_the_word :
    let t := after (.stageWrite 0 3 77) opened
    t.session.stages[3] = 77 ∧ t.session.stages[0] = 0 ∧ result t = (19, .done) := by decide

theorem test_thresholds_retest_the_accounts :
    let s := withAccount .a .healthy 9 (withAccount .b .suspect 5 opened)
    let t := after (.thresholds 0 (thresholdsValue 9 5 10)) s
    (t.account .a).state = .suspect ∧ (t.account .b).state = .healthy ∧ result t = (20, .done) := by decide

theorem test_thresholds_refused_whole :
    let t := after (.thresholds 0 (thresholdsValue 5 5 10)) opened
    t.health = opened.health ∧ result t = (20, .refusedArgument) := by decide

theorem witness_SettingsWritesTakeAllFieldsOrNone_thresholds :
    opened.apertureReady 0 = true ∧ (thresholdsValue 1 0 2).toNat % 1024 = 1
      ∧ (thresholdsValue 1 0 2).toNat / 2 ^ 20 % 1024 = 2
      ∧ (after (.thresholds 0 (thresholdsValue 1 0 2)) opened).health.thresholds.retireAt = 2
      ∧ result (after (.thresholds 0 (thresholdsValue 1 0 1)) opened) = (20, .refusedArgument) := by decide

/-- A TIMING value. -/
def timingValue (reply interval on : Nat) : Word := BitVec.ofNat 64 (reply + interval * 64 + on * 4194304)

theorem test_timing_starts_the_walker :
    let t := after (.timing 0 (timingValue 63 65535 1)) opened
    t.scrub.state = .waiting ∧ t.scrub.timer = some 65535 ∧ t.ports.replyTimeout = 63 := by decide

theorem test_timing_refused_whole :
    result (after (.timing 0 (timingValue 0 64 1)) opened) = (21, .refusedArgument)
      ∧ (after (.timing 0 (timingValue 4 0 1)) opened).scrub = opened.scrub := by decide

theorem witness_SettingsWritesTakeAllFieldsOrNone_timing :
    (timingValue 1 1 0).toNat % 64 = 1 ∧ (timingValue 1 1 0).toNat / 64 % 65536 = 1
      ∧ (walking .waiting opened).scrub.state = .waiting ∧ (walking .paused opened).scrub.state = .paused
      ∧ (scrubClaiming EngineLock.empty).scrub.state = .claiming ∧ scrubbing.scrub.state = .reading
      ∧ (after (.timing 0 (timingValue 1 64 1)) (walking .waiting opened)).scrub.timer = some 0
      ∧ (after (.timing 0 (timingValue 1 1 0)) (walking .paused opened)).scrub.state = .off := by decide

/-- A HOUSEKEEPING value. -/
def housekeepingValue (decay idle ma mb mc : Nat) : Word :=
  BitVec.ofNat 64 (decay + idle * 65536 + ma * 4294967296 + mb * 17179869184 + mc * 68719476736)

theorem test_housekeeping_stops_the_idle_timer :
    let t := after (.housekeeping 0 (housekeepingValue 4096 0 0 0 0)) opened
    t.session.idleTimer = none ∧ t.session.sessionIdle = 0 ∧ t.health.decayTimer = 4096 := by decide

theorem test_housekeeping_applies_a_remembered_acknowledge :
    let s := { withAccount .a .suspect 64 opened with
      alerts := { opened.alerts with causes := opened.alerts.causes.set (.health .a) { latch := true, condition := true, acked := true } } }
    (after (.housekeeping 0 (housekeepingValue 4096 1 2 0 0)) s).alerts.causes.health.a
      = { latch := false, condition := true, acked := false } := by decide

theorem witness_SettingsWritesTakeAllFieldsOrNone_housekeeping :
    result (after (.housekeeping 0 (housekeepingValue 1 65535 2 1 0)) opened) = (22, .done)
      ∧ result (after (.housekeeping 0 (housekeepingValue 0 0 0 0 0)) opened) = (22, .refusedArgument)
      ∧ result (after (.housekeeping 0 (housekeepingValue 1 0 3 0 0)) opened) = (22, .refusedArgument)
      ∧ result (after (.housekeeping 0 (housekeepingValue 1 0 0 0 3)) opened) = (22, .refusedArgument) := by decide

/-- DEGRADED stands ACTIVE, DATA_LOSS SET. -/
def alerted : State :=
  State.refreshLine
    { alone with alerts := { alone.alerts with causes := { alone.alerts.causes with degraded := .active, dataLoss := CauseState.clear.event } } }

theorem test_alertAck_clears_an_edge_and_remembers_a_level :
    let t := after (.alertAck 0 0x50) alerted
    t.alerts.causes.dataLoss.latch = false ∧ t.alerts.causes.degraded = { latch := true, condition := true, acked := true }
      ∧ t.alerts.asserted = true := by decide

theorem test_alertEnable_releases_the_line :
    alerted.alerts.asserted = true ∧ (after (.alertEnable 0 0) alerted).alerts.asserted = false := by decide

theorem witness_AlertWordWritesAct :
    result (after (.alertAck 0 1023) alerted) = (12, .done) ∧ result (after (.alertAck 0 1024) alerted) = (12, .refusedArgument)
      ∧ result (after (.alertEnable 0 1023) alerted) = (13, .done)
      ∧ result (after (.alertEnable 0 1024) alerted) = (13, .refusedArgument) := by decide

theorem test_recordRelease_takes_the_head :
    let s := recorded { list := [record 65535 255], nextSeq := 0, lost := 0 }
    (after (.recordRelease 0 0xFFFFFF) s).records.list = []
      ∧ result (after (.recordRelease 0 0xFEFFFF) s) = (9, .stale) := by decide

theorem witness_RecordReleaseTakesMatchingHead :
    opened.records.list = [] ∧ (recorded (recordsOf 16)).records.list.length = 16
      ∧ result (after (.recordRelease 0 0x10000) (recorded (recordsOf 16))) = (9, .done)
      ∧ result (after (.recordRelease 0 0) (recorded (recordsOf 1))) = (9, .stale)
      ∧ result (after (.recordRelease 0 0) opened) = (9, .refusedState) := by decide

/-! ## Command words -/

theorem test_retire_aborts_the_port :
    let t := after (.retire 0 1) (queued 3)
    (t.account .b).reason = .command ∧ (t.port .b).state = .aborting ∧ t.alerts.causes.degraded.latch = true
      ∧ result t = (40, .done) ∧ t.queue.length = 3 := by decide

theorem witness_RetireCommandAnswers :
    result (after (.retire 0 3) opened) = (40, .refusedArgument) ∧ result (after (.retire 0 2) spare) = (40, .refusedState)
      ∧ result (after (.retire 0 0) alone) = (40, .refusedState) ∧ result (after (.retire 0 2) opened) = (40, .done) := by decide

theorem test_rebuild_begins_an_abort :
    let t := after (.rebuild 0 2) spare
    t.rebuildTarget = some .c ∧ (t.port .c).state = .aborting ∧ (t.port .c).abortLimit = some 16
      ∧ (t.account .c).score = 0 := by decide

theorem witness_RebuildCommandAnswers :
    result (after (.rebuild 0 3) opened) = (41, .refusedArgument) ∧ result (after (.rebuild 0 0) starting) = (41, .busy)
      ∧ result (after (.rebuild 0 0) opened) = (41, .refusedState) ∧ result (after (.rebuild 0 0) nobody) = (41, .refusedState)
      ∧ (spare.port .c).list = [] ∧ result (after (.rebuild 0 2) spare) = (41, .done) := by decide

theorem test_fill_marks_and_claims :
    let t := after (.fill 0 0) { regioned with queue := queueOf 4 }
    t.regions.fillMark = some 0 ∧ t.queue.map (·.block) = [3] ∧ (t.lock .copy).claim = some 0 ∧ t.copy.endBlock = 2 := by decide

theorem witness_FillCommandAnswers :
    result (after (.fill 0 8) regioned) = (42, .refusedArgument) ∧ result (after (.fill 0 0) filling) = (42, .busy)
      ∧ result (after (.fill 0 7) regioned) = (42, .refusedState)
      ∧ result (after (.fill 0 0) { nobody with regions := regioned.regions }) = (42, .refusedState)
      ∧ result (after (.fill 0 0) regioned) = (42, .done) := by decide

/-- A state with staged bounds and policy. -/
def staged (first last policy : Word) (s : State) : State :=
  { s with session := { s.session with stages := #v[first, last, policy, 0] } }

theorem test_regionSet_takes_the_staging_words :
    let t := after (.regionSet 0 7) (staged 262143 262143 5 regioned)
    t.regions.descriptors[7] = { enabled := true, first := 262143, last := 262143, mode := .fast, scrub := true }
      ∧ result t = (44, .done) := by decide

theorem test_regionClear_keeps_the_fields :
    (after (.regionClear 0 0) regioned).regions.descriptors[0]
      = { enabled := false, first := 0, last := 2, mode := .vote, scrub := true } := by decide

theorem witness_RegionCommandsAnswer :
    result (after (.regionSet 0 8) regioned) = (44, .refusedArgument) ∧ result (after (.regionSet 0 0) filling) = (44, .busy)
      ∧ result (after (.regionSet 0 1) (staged 3 4 2 regioned)) = (44, .refusedArgument)
      ∧ result (after (.regionSet 0 1) (staged 3 4 8 regioned)) = (44, .refusedArgument)
      ∧ result (after (.regionSet 0 1) (staged 4 3 0 regioned)) = (44, .refusedArgument)
      ∧ result (after (.regionSet 0 1) (staged 3 262144 0 regioned)) = (44, .refusedArgument)
      ∧ result (after (.regionSet 0 1) (staged 2 3 0 regioned)) = (44, .refusedArgument)
      ∧ result (after (.regionSet 0 1) (staged 3 262143 0 regioned)) = (44, .done)
      ∧ result (after (.regionClear 0 8) regioned) = (45, .refusedArgument)
      ∧ result (after (.regionClear 0 0) filling) = (45, .busy) ∧ result (after (.regionClear 0 7) regioned) = (45, .done) := by
  decide

theorem test_scoreClear_makes_a_suspect_healthy :
    let t := after (.scoreClear 0 0) (withAccount .a .suspect 1023 opened)
    (t.account .a).state = .healthy ∧ (t.account .a).score = 0 := by decide

theorem witness_ScoreClearCommandAnswers :
    result (after (.scoreClear 0 3) opened) = (46, .refusedArgument) ∧ result (after (.scoreClear 0 2) starting) = (46, .refusedState)
      ∧ result (after (.scoreClear 0 2) opened) = (46, .done) := by decide

theorem test_queueFlush_empties_and_falls :
    let t := after (.queueFlush 0 5) (queued 32)
    (queued 32).alerts.causes.queueFull.condition = true ∧ t.queue = []
      ∧ t.alerts.causes.queueFull = { latch := true, condition := false, acked := false } := by decide

theorem witness_QueueFlushEmptiesQueue : (queued 32).apertureReady 0 = true := by decide

theorem test_moveAperture_waits_for_the_close :
    let t := after (.moveAperture 0 512) opened
    t.session.base = 16776704 ∧ t.session.pendingBase = some 512 ∧ (after (.close 1 0) t).session.base = 512 := by decide

theorem witness_MoveApertureSetsPendingBase :
    result (after (.moveAperture 0 16776704) opened) = (48, .done)
      ∧ result (after (.moveAperture 0 16777216) opened) = (48, .refusedArgument)
      ∧ result (after (.moveAperture 0 511) opened) = (48, .refusedArgument) ∧ result (after (.moveAperture 0 0) opened) = (48, .done) := by
  decide

theorem test_softReset_ends_the_rebuild :
    let t := after (.softReset 0 0) starting
    t.copy.outcome = .abortedReset ∧ (t.account .c).reason = .rebuildFailed ∧ t.session.state = .closed
      ∧ t.alerts.causes.retire.latch = true ∧ t.alerts.causes.copyDone.latch = true ∧ result t = (49, .done)
      ∧ (t.port .c).state = .aborting := by decide

theorem test_copyAbort_ends_the_fill :
    let t := after (.copyAbort 0 0) filling
    t.copy.outcome = .abortedCommand ∧ t.regions.fillMark = none ∧ (t.lock .copy).claim = none
      ∧ t.alerts.causes.copyDone.latch = true := by decide

theorem witness_CopyAbortEndsTheCopy :
    result (after (.copyAbort 0 0) opened) = (43, .refusedState) ∧ result (after (.copyAbort 0 0) rebuilding) = (43, .done)
      ∧ rebuilding.copy.kind = .rebuild .c ∧ filling.copy.kind = .fill 0 ∧ rebuilding.copy.skipCount = 0
      ∧ { rebuilding.copy with skipCount := 1 }.skipCount ≠ 0 := by decide

/-- A rebuild completed with skips enters SUSPECT with its entry event. -/
theorem test_skipped_rebuild_enters_suspect :
    let t := State.copyEnd .completed { rebuilding with copy := { rebuilding.copy with skipCount := 1 } }
    (t.account .c).state = .suspect ∧ (t.account .c).score = 64 ∧ (t.alerts.causes.get (.health .c)).latch = true := by decide

theorem test_close_closes_after_its_answer :
    let t := after (.close 0 9) opened
    t.session.state = .closed ∧ result t = (62, .done) ∧ (t.slot 0).map (·.status) = some (some .clean) := by decide

/-! ## Decisions and what they report -/

theorem test_full_block_write_takes_the_entry_out :
    let sl := { slotOf .write .issued ⟨voter (.ok []), voter (.ok []), voter (.ok [])⟩ with
      length := 8, enables := List.replicate 8 Enables.all, data := List.replicate 8 1 }
    let s := withSlot sl { opened with queue := [{ block := 5, mask := Tri.only .a, attempts := 0 }] }
    (s.decideSlot 0).queue = [] ∧ ((s.decideSlot 0).slot 0).map (·.status) = some (some .clean) := by decide

theorem test_partial_write_queues_the_missed :
    let s := withSlot (slotOf .write .issued ⟨voter (.ok []), voter .error, voter .lost⟩) opened
    let t := s.decideSlot 0
    (t.slot 0).map (·.status) = some (some .partialWrite) ∧ t.queue.map (·.mask) = [⟨false, true, true⟩]
      ∧ (t.account .b).score = 8 ∧ (t.account .c).score = 0 := by decide

theorem test_failed_read_loses_data :
    let s := withSlot (slotOf .read .issued ⟨voter (.ok [1]), voter (.ok [2]), voter .lost⟩) opened
    let t := s.decideSlot 0
    (t.slot 0).map (fun sl => (sl.status, sl.failedMask, sl.words)) = some (some .failed, 1, [0])
      ∧ t.alerts.causes.dataLoss.latch = true ∧ t.records.list.map (·.kind) = [.divergent] ∧ t.queue = [] := by decide

theorem test_fast_read_falls_back :
    let sl := { slotOf .read .issued ⟨voter .error, none, none⟩ with policy := some .fast, fastPhase := .first }
    ((withSlot sl opened).decideSlot 0).slot 0
      = some { sl with fastPhase := .fallback, firstAnswer := some (.a, .error), awaiting := true } := by decide

theorem witness_SlotDecisionGivesStatus :
    let first (x : OpAnswer) := { slotOf .read .issued ⟨voter x, none, none⟩ with policy := some .fast, fastPhase := .first }
    ((withSlot (first (.ok [4])) opened).slot 0).map (·.kind) = some .read
      ∧ ((withSlot (slotOf .write .issued ⟨voter .lost, none, none⟩) opened).decideSlot 0).alerts.causes.dataLoss.latch = true
      ∧ (((withSlot (first (.ok [4])) opened).decideSlot 0).slot 0).map (·.status) = some (some .single)
      ∧ (((withSlot (first .lost) opened).decideSlot 0).slot 0).map (·.awaiting) = some true
      ∧ (((withSlot (slotOf .write .issued ⟨voter (.ok []), none, none⟩) opened).decideSlot 0).slot 0).map (·.status)
          = some (some .single) := by decide

theorem test_repair_verifies_and_ends :
    let t := (repairing .verify (.out ⟨some (.ok [7, 7, 7, 7, 7, 7, 7, 7]), none, none⟩) holds5).decideRepair
    t.repair = Repair.idle ∧ (t.lock .repair).held = none ∧ t.records.list = [] := by decide

theorem test_repair_fails_verification :
    let t := (repairing .verify (.out ⟨some (.ok [6, 7, 7, 7, 7, 7, 7, 7]), none, none⟩) holds5).decideRepair
    t.queue = [{ block := 5, mask := Tri.only .a, attempts := 1 }] ∧ (t.account .a).score = 32
      ∧ t.records.list.map (fun x => (x.kind, x.queued)) = [(.repairFailed, true)] := by decide

/-- A repair's read of block 5 with these answers of B and C. -/
def repairRead (b c : OpAnswer) : State := repairing .read (.out ⟨none, some b, some c⟩) holds5

/-- Eight equal words. -/
def eight (v : Word) : OpAnswer := .ok (List.replicate 8 v)

theorem witness_RepairDecisionsAct_read :
    (repairRead .error .lost).decideRepair.records.list.map (·.kind) = [.repairAbandoned]
      ∧ (repairRead (eight 1) (eight 2)).decideRepair.records.list.map (fun x => (x.kind, x.word)) = [(.divergent, some 0)]
      ∧ (repairRead (eight 1) (eight 2)).decideRepair.alerts.causes.dataLoss.latch = true
      ∧ (repairRead (eight 3) .error).decideRepair.repair.values = List.replicate 8 3
      ∧ (repairRead (eight 3) (eight 3)).decideRepair.repair.phase = .write
      ∧ ((withAccount .a .retired 0 (repairRead (eight 3) .lost)).decideRepair).repair = Repair.idle := by decide

/-- A repair's write of block 5 that includes the rebuild of C. -/
def repairWritten (c : OpAnswer) : State :=
  let s := withAccount .c .rebuilding 0 (repairing .write (.out ⟨some (.ok []), none, some c⟩) holds5)
  { s with
    repair := { s.repair with target := some .c }
    copy := { s.copy with kind := .rebuild .c, state := .running, step := .claim, pointer := 6, endBlock := 262143 } }

theorem witness_RepairDecisionsAct_write :
    (repairWritten (.ok [])).decideRepair.repair.op = .ready ⟨true, false, true⟩
      ∧ (repairWritten .error).decideRepair.copy.outcome = .abortedTarget
      ∧ (repairWritten .lost).decideRepair.repair.targetReported = true
      ∧ (repairWritten .lost).decideRepair.repair.op = .ready ⟨true, false, false⟩ := by decide

theorem test_a_rebuild_started_after_the_write_grant_is_not_ended :
    let s := repairWritten .lost
    ({ s with repair := { s.repair with target := none } }).decideRepair.copy.outcome = .none := by decide

theorem witness_RepairDecisionsAct_verify :
    let s := repairing .verify (.out ⟨some .error, none, none⟩) holds5
    let third := { s with repair := { s.repair with attempts := 2 } }
    let w := repairWritten (.ok [])
    let target := { w with
      repair := { w.repair with phase := .verify, writeSet := ⟨none, none, some (.ok [])⟩, op := .out ⟨none, none, some .error⟩ } }
    s.decideRepair.queue.map (·.attempts) = [1] ∧ third.decideRepair.queue = []
      ∧ third.decideRepair.records.list.map (fun x => (x.kind, x.queued)) = [(.repairFailed, false)]
      ∧ target.decideRepair.copy.outcome = .abortedTarget ∧ target.decideRepair.records.list = []
      ∧ (repairing .verify (.out ⟨some (eight 7), none, none⟩) holds5).decideRepair.repair.phase = .idle := by decide

/-- A fill's write of block 0 with these answers, two blocks before its end. -/
def fillWritten (a b c : OpAnswer) : State :=
  { fillWriting with
    copy := { fillWriting.copy with pointer := 0, op := .out ⟨some a, some b, some c⟩ }
    rt := { fillWriting.rt with locks := { fillWriting.rt.locks with copy := { EngineLock.empty with held := some 0 } } } }

theorem witness_CopyDecisionsAct_fill :
    let missed := (fillWritten (.ok []) .error .lost).decideCopy
    let lost := (fillWritten .error .lost .lost).decideCopy
    missed.queue.map (fun e => (e.block, e.mask)) = [(0, ⟨false, true, true⟩)] ∧ (missed.account .b).score = 8
      ∧ (missed.account .c).score = 0 ∧ missed.records.list.map (·.queued) = [true] ∧ (missed.lock .copy).claim = some 1
      ∧ lost.queue = [] ∧ lost.alerts.causes.dataLoss.latch = true
      ∧ lost.records.list.map (·.mask) = [⟨true, true, true⟩]
      ∧ (fillWritten (.ok []) (.ok []) (.ok [])).decideCopy.records.list = [] := by decide

/-- A rebuild's op of block 5 with these answers. -/
def rebuildDone (step : CopyStep) (answers : Tri (Option OpAnswer)) : State :=
  { rebuilding with copy := { rebuilding.copy with step := step, op := .out answers } }

theorem witness_CopyDecisionsAct_rebuild :
    let skipped := (rebuildDone .read ⟨some (eight 1), some (eight 2), none⟩).decideCopy
    let unread := (rebuildDone .read ⟨some .error, some .lost, none⟩).decideCopy
    skipped.copy.skipCount = 1 ∧ skipped.records.list.map (fun x => (x.kind, x.word, x.mask)) = [(.rebuildSkipped, some 0, Tri.only .c)]
      ∧ skipped.copy.pointer = 6 ∧ (skipped.lock .copy).claim = some 6 ∧ unread.copy.skipCount = 1
      ∧ (rebuildDone .read ⟨some (eight 4), some .error, none⟩).decideCopy.copy.values = List.replicate 8 4
      ∧ (rebuildDone .write ⟨none, none, some (.ok [])⟩).decideCopy.copy.pointer = 6
      ∧ (rebuildDone .write ⟨none, none, some .lost⟩).decideCopy.copy.outcome = .abortedTarget := by decide

/-- The walker's read of block 5 with these answers. -/
def scrubRead (a b c : OpAnswer) : State :=
  { scrubbing with scrub := { scrubbing.scrub with op := .out ⟨some a, some b, some c⟩ } }

theorem witness_ScrubReadEndsItsVisit :
    let outvoted := (scrubRead (eight 1) (eight 2) (eight 1)).decideScrub
    let divergent := (scrubRead (eight 1) (eight 2) .error).decideScrub
    let last := { scrubRead (eight 1) (eight 1) (eight 1) with
      scrub := { (scrubRead (eight 1) (eight 1) (eight 1)).scrub with pointer := 262143, passCount := 65535, on := true } }
    outvoted.queue.map (·.mask) = [Tri.only .b] ∧ outvoted.scrub.pointer = 6 ∧ outvoted.scrub.state = .off
      ∧ outvoted.alerts.causes.dataLoss.latch = false
      ∧ divergent.records.list.map (·.kind) = [.readError, .divergent] ∧ divergent.alerts.causes.dataLoss.latch = true
      ∧ last.decideScrub.scrub.pointer = 0 ∧ last.decideScrub.scrub.passCount = 0 ∧ last.decideScrub.scrub.state = .waiting
      ∧ last.decideScrub.scrub.timer = some 64 := by decide

theorem witness_DecisionReportsReachTheirOwners :
    let target (x : OpAnswer) := slotOf .write .issued ⟨voter (.ok []), voter .error, some ⟨.target, x⟩⟩
    let w := repairWritten .lost
    (w.reportTarget (target .lost)).copy.outcome = .abortedTarget ∧ w.reportTarget (target (.ok [])) = w
      ∧ (opened.reportMissed (target .error)).queue.map (·.mask) = [⟨false, true, true⟩]
      ∧ ((opened.reportMissed (target .error)).account .c).score = 8
      ∧ (opened.reportUnwritten (slotOf .write .issued ⟨voter .error, voter .lost, none⟩)).records.list.map (·.mask)
          = [⟨true, true, false⟩]
      ∧ (opened.reportUnwritten (slotOf .write .issued ⟨none, none, none⟩)).alerts.causes.dataLoss.latch = true
      ∧ (slotOf .write .issued ⟨none, none, none⟩).length ≠ 8
      ∧ (opened.recordEvent { kind := .timeout, origin := .scrub, block := 0, mask := Tri.nobody, word := none, queued := false })
          = opened
      ∧ ((queued 3).removeRepair 1 .a).queue.map (·.block) = [0, 2] := by decide

theorem test_rebuild_completes_on_its_last_block :
    let s := { rebuilding with copy := { rebuilding.copy with pointer := 5, endBlock := 5, op := .out ⟨none, none, some (.ok [])⟩ } }
    let t := s.decideCopy
    (t.account .c).state = .healthy ∧ t.copy.outcome = .completed ∧ t.copy.pointer = 6 ∧ t.votingCount = 3 := by decide

theorem witness_WordVoteFollowsTable : (0 : Word) ≠ 1 ∧ (1 : Word) ≠ 2 ∧ (0 : Word) ≠ 2 := by decide

/-- An event for a block. -/
def eventOf (kind : RecordKind) (block : Nat) (word : Option Nat) : RecordEvent :=
  { kind := kind, origin := .scrub, block := block, mask := Tri.only .a, word := word, queued := false }

theorem test_a_full_list_drops_and_counts :
    let t := (recorded (recordsOf 16)).recordEvent (eventOf .timeout 99 none)
    t.records.lost = 255 ∧ t.records.list.length = 16 ∧ t.alerts.causes.recordsLost.latch = true := by decide

theorem test_a_full_list_merges :
    let t := (recorded (recordsOf 16)).recordEvent (eventOf .timeout 15 none)
    t.records.lost = 254 ∧ t.records.list.map (·.repeats) = List.replicate 15 1 ++ [2] := by decide

theorem witness_RecordEventMergesCreatesOrDrops :
    (eventOf .timeout 99 none).mask.isEmpty = false ∧ (recordsOf 15).list.length < 16 ∧ (recordsOf 16).list.length = 16
      ∧ (recordsOf 16).list.all (fun y => !(y.block == 99 && y.kind == .timeout)) = true
      ∧ (recordsOf 1).list.map (fun y => (y.block, y.kind)) = [(0, .timeout)] := by decide

theorem witness_InsertionMergesAppendsOrDrops :
    ((Tri.only .c).inter spare.voting).isEmpty = true ∧ ((Tri.only .a).inter opened.voting).isEmpty = false
      ∧ (queued 31).queue.length = 31 ∧ (queued 32).queue.length = 32
      ∧ ((queued 31).insertRepair 99 (Tri.only .b) 0).1.queue.length = 32
      ∧ ((queued 32).insertRepair 99 (Tri.only .b) 0).2 = false
      ∧ ((queued 32).insertRepair 31 (Tri.only .b) 2).2 = true := by decide

theorem test_charge_crosses_both_thresholds :
    let s := withAccount .a .healthy 1000 opened
    let s := { s with health := { s.health with thresholds := { suspectAt := 1001, clearAt := 0, retireAt := 1002, autoRetire := true } } }
    let t := s.charge .a .timeout
    (t.account .a).state = .retired ∧ (t.account .a).reason = .score ∧ (t.account .a).score = 1016
      ∧ t.alerts.causes.health.a = { latch := true, condition := false, acked := false } := by decide

theorem witness_ChargeRaisesScoreAndTests :
    (spare.account .c).votes = false ∧ (opened.account .a).votes = true
      ∧ ((withAccount .a .healthy 60 opened).charge .a .miscompare).account .a
          = { state := .suspect, score := 64, reason := .none, alertMode := .level }
      ∧ ((withAccount .a .healthy 59 opened).charge .a .miscompare).account .a
          = { state := .healthy, score := 63, reason := .none, alertMode := .level }
      ∧ ((withAccount .a .suspect 1023 opened).charge .a .timeout).account .a
          = { state := .suspect, score := 1023, reason := .none, alertMode := .level } := by decide

/-- AUTO_RETIRE is on with these thresholds. -/
def retiring (suspectAt retireAt : Nat) (s : State) : State :=
  { s with health := { s.health with thresholds := { suspectAt := suspectAt, clearAt := 0, retireAt := retireAt, autoRetire := true } } }

theorem witness_ChargeRaisesScoreAndTests_retires :
    let healthy := retiring 16 17 (withAccount .a .healthy 15 opened)
    let suspect := retiring 16 17 (withAccount .a .suspect 16 opened)
    ((healthy.charge .a .miscompare).account .a).state = .retired ∧ ((suspect.charge .a .timeout).account .a).state = .retired
      ∧ healthy.votingCount = 3 ∧ (healthy.charge .a .miscompare).alerts.causes.health.a.latch = true := by decide

theorem test_retirement_hands_the_losses :
    let s := withSlot (slotOf .read .issued ⟨voter .pending, voter .pending, none⟩) (withAccount .a .suspect 70 (queued 3))
    let s := withList .a [entryOf (.slot 0) .read .upstreamRead 2] s
    let t := s.retireCore .a .command
    (t.slot 0).map (·.voters) = some ⟨voter .lost, voter .pending, none⟩ ∧ t.queue = [] ∧ (t.port .a).list = []
      ∧ t.alerts.causes.retire.latch = true := by decide

theorem test_retirement_reaches_the_active_repair :
    ((repairing .claim .none claims5).retireCore .b .command).repair.sources = ⟨false, false, true⟩
      ∧ ((repairing .read (.ready ⟨false, true, true⟩) holds5).retireCore .a .command).repair.mask = Tri.nobody := by decide

theorem witness_RetirementReachesEveryBlock_clauses :
    (alone.account .a).votes = true ∧ alone.votingCount = 1 ∧ (withAccount .b .retired 0 lastDying).copy.state ≠ .idle
      ∧ (withAccount .b .retired 0 lastDying).votingCount = 1 ∧ opened.copy.state = .idle ∧ opened.votingCount ≠ 1
      ∧ ((withAccount .a .suspect 64 opened).account .a).votes = true
      ∧ (repairing .verify (.out ⟨some .pending, none, none⟩) holds5).engineOp .repair = .out ⟨some .pending, none, none⟩ := by
  decide

theorem witness_RetirementReachesEveryBlock :
    (opened.account .a).votes = true ∧ (opened.port .a).state = .ready
      ∧ ((opened.setPort .a { opened.port .a with state := .aborting }).port .a).state ≠ .ready := by decide

theorem witness_InsertionMergesAppendsOrDrops_merge :
    (queued 32).alerts.causes.queueFull.condition = true
      ∧ ((queued 32).insertRepair 31 (Tri.only .b) 2).1.alerts = (queued 32).alerts := by decide

theorem witness_PolicyLookupFollowsDescriptors :
    regioned.regions.lookup 2 = { mode := .vote, scrub := true, filling := false }
      ∧ regioned.regions.lookup 3 = { mode := .vote, scrub := false, filling := false }
      ∧ (filling.regions.lookup 0).filling = true := by decide

/-! ## Invariants and the state after reset -/

theorem witness_RecordListInvariantKept :
    (recorded (recordsOf 16)).records.Wf
      ∧ ((step ((recorded (recordsOf 16)).withPending [.recordRelease 0 0x10000])) matches .next _) = true :=
  ⟨⟨by decide, by decide, by decide, by decide, by decide, by decide⟩, by decide⟩

theorem witness_RepairQueueInvariantKept :
    (queued 32).QueueWf ∧ ((step ((queued 32).withPending [.retire 0 0])) matches .next _) = true := by
  refine ⟨⟨by decide, by decide, by decide, fun e he r hr => ?_⟩, by decide⟩
  cases r <;> decide

theorem witness_AlertUnitInvariantKept :
    alerted.AlertsWf ∧ ((step (alerted.withPending [.alertAck 0 0x50])) matches .next _) = true :=
  ⟨⟨State.refreshLine_lineWf _, by decide, by decide, by decide, by decide⟩, by decide⟩

theorem witness_HealthInvariantKept :
    (withAccount .a .suspect 17 (withAccount .b .healthy 63 opened)).health.Wf
      ∧ ((step ((decaying opened).withPending [.decayExpiry])) matches .next _) = true := by
  refine ⟨⟨by decide, by decide, fun r => ?_, fun r => ?_, fun r => ?_⟩, by decide⟩ <;> cases r <;> decide

theorem witness_SessionInvariantKept :
    idled.SessionWf ∧ ((step (idled.withPending [.sessionIdleExpiry])) matches .next _) = true :=
  ⟨⟨by decide, fun b h => absurd h (by decide +revert), by decide, by decide⟩, by decide⟩

theorem witness_RegionsInvariantKept :
    filling.RegionsWf ∧ ((step (filling.withPending [.copyAbort 0 0])) matches .next _) = true :=
  ⟨⟨by decide, by decide, by decide⟩, by decide⟩

theorem witness_RebuildInvariantKept :
    dying.RebuildWf ∧ ((step (dying.withPending [.portDead .c])) matches .next _) = true := by
  refine ⟨fun r => ?_, by decide⟩
  cases r <;> decide

theorem witness_PortsInvariantKept :
    starting.PortsWf ∧ ((step (starting.withPending [.abortDone .c])) matches .next _) = true := by
  refine ⟨⟨fun r => ?_, fun r => ?_, by decide, by decide, by decide, by decide⟩, by decide⟩ <;> cases r <;> decide

theorem enginesWf_rebuilding : rebuilding.EnginesWf where
  apart := by intro e e' b; cases e <;> cases e' <;> simp [rebuilding, State.lock, Locks.get, withAccount, State.setAccount, opened, State.reset, State.afterReset, RequestTable.reset, EngineLock.empty]
  one := by intro e; cases e <;> decide
  repairClaim := by decide
  repairHeld := by decide
  repairOp := by decide
  copyClaim := by decide
  copyHeld := by decide
  copyOp := by decide
  scrubClaim := by decide
  scrubHeld := by decide
  scrubOp := by decide
  scrubBlock := by intro b h; exact absurd h (by simp [rebuilding, State.lock, Locks.get, withAccount, State.setAccount, opened, State.reset, State.afterReset, RequestTable.reset, EngineLock.empty])

theorem witness_EnginesInvariantKept :
    rebuilding.EnginesWf ∧ ((step (rebuilding.withPending [.rebuildWriteGrant])) matches .next _) = true :=
  ⟨enginesWf_rebuilding, by decide⟩

/-- The rebuild with DEGRADED as R179 has it, its write to C outstanding, and an abandoned repair of block 6 draining at A. -/
def degraded : State :=
  let s := { rebuilding with copy := { rebuilding.copy with op := .out ⟨none, none, some .pending⟩ } }
  let s := s.setLock .repair { s.lock .repair with draining := some 6 }
  let gone := entryOf (.engine .repair) .read .repair 4
  (withList .c [entryOf (.engine .copy) .write .rebuild 4]
    (withList .a [{ gone with op := { gone.op with block := 6 }, ownerGone := true }] s)).handDegraded

theorem witness_SoftResetActsOnEveryBlock :
    degraded.apertureReady 0 = true ∧ degraded.RebuildWf ∧ degraded.AlertsWf ∧ degraded.rebuildTarget = some .c
      ∧ State.reset.scrub.on = false ∧ (walking .waiting opened).scrub.on = true := by
  refine ⟨by decide, fun r => ?_, ⟨State.updateCause_lineWf _ _ _, by decide, by decide, by decide, by decide⟩, by decide,
    by decide, by decide⟩
  cases r <;> decide

theorem witness_SoftResetActsOnEveryBlock_engines : degraded.EnginesWf where
  apart := by
    intro e e' b hne h h'
    cases e <;> cases e' <;> first
      | exact hne rfl
      | exact nomatch (show (none : Option Nat) = some b from h)
      | exact nomatch (show (none : Option Nat) = some b from h')
  one := by intro e; cases e <;> decide
  repairClaim := by decide
  repairHeld := by decide
  repairOp := by decide
  copyClaim := by decide
  copyHeld := by decide
  copyOp := by decide
  scrubClaim := by decide
  scrubHeld := by decide
  scrubOp := by decide
  scrubBlock := fun b h => nomatch (show (none : Option Nat) = some b from h)

theorem witness_SoftResetActsOnEveryBlock_queue : degraded.QueueWf :=
  ⟨by decide, by decide, by decide, fun e he => absurd he (show e ∉ ([] : List QueueEntry) from List.not_mem_nil)⟩

/-- SOFT_RESET clears the mark of the fill it ends and keeps the mark where the copy engine is idle. -/
theorem test_softReset_and_the_fill_mark :
    (after (.softReset 0 0) filling).regions.fillMark = none ∧ filling.regions.fillMark = some 0
      ∧ (after (.softReset 0 0) { opened with regions := filling.regions }).regions.fillMark = some 0 := by decide

theorem witness_SoftResetActsOnEveryBlock_holds : degraded.HoldsWf where
  undrained := by
    rintro e b h ⟨e', h'⟩
    cases e <;> first
      | exact nomatch (show (none : Option Nat) = some b from h)
      | (cases e' <;> first
          | exact nomatch (show (none : Option Nat) = some b from h')
          | exact absurd (Option.some.inj ((show some 5 = some b from h).trans (show some 6 = some b from h').symm)) (by decide))
  repairBlock := fun b h => h.elim (nomatch show (none : Option Nat) = some b from ·) (nomatch show (none : Option Nat) = some b from ·)
  copyBlock := fun b h =>
    h.elim (fun h => (Option.some.inj (show some 5 = some b from h)).symm) (nomatch show (none : Option Nat) = some b from ·)
  scrubBlock := fun b h => h.elim (nomatch show (none : Option Nat) = some b from ·) (nomatch show (none : Option Nat) = some b from ·)
  live := by
    have one : ∀ e r, ∀ x ∈ (degraded.port r).list, x.op.owner = .engine e → x.ownerGone = false →
        (degraded.lock e).held = some x.op.block ∧ e = .copy ∧ r = .c := by
      intro e r; cases e <;> cases r <;> decide
    intro e r x hx ho hg
    obtain ⟨held, rfl, rfl⟩ := one e r x hx ho hg
    exact ⟨held, _, rfl, rfl⟩
  gone := by intro e r; cases e <;> cases r <;> decide
  alike := by intro e r q; cases e <;> cases r <;> cases q <;> decide
  single := by intro e r; cases e <;> cases r <;> decide
  drains := by
    intro e b h
    cases e
    · cases Option.some.inj (show some 6 = some b from h)
      exact ⟨.a, _, List.mem_cons_self, rfl, rfl⟩
    all_goals exact nomatch (show (none : Option Nat) = some b from h)

theorem witness_EnginesInvariantKept_holds :
    degraded.EnginesWf ∧ degraded.HoldsWf ∧ degraded.PortsWf
      ∧ ((step (degraded.withPending [.portAnswer .a .error])) matches .next _) = true
      ∧ ((after (.portAnswer .a .error) degraded).lock .repair).draining = none := by
  refine ⟨witness_SoftResetActsOnEveryBlock_engines, witness_SoftResetActsOnEveryBlock_holds,
    ⟨fun r => ?_, fun r => ?_, by decide, by decide, by decide, by decide⟩, by decide, by decide⟩ <;> cases r <;> decide

/-- SOFT_RESET lets the target's aborted write go with its port and keeps the draining hold whose op remains. -/
theorem test_softReset_keeps_the_draining_hold :
    let t := after (.softReset 0 0) degraded
    (t.lock .copy).draining = none ∧ (t.lock .copy).held = none ∧ (t.lock .repair).draining = some 6
      ∧ (t.port .c).state = .aborting ∧ (t.port .c).list = [] ∧ (t.port .a).list.length = 1 := by decide

/-- SOFT_RESET meets a lock whose op is outstanding and one whose op is not, with a request that waits for the block. -/
theorem test_softReset_drains_and_frees :
    let s := withSlot (slotOf .read .waiting ⟨none, none, none⟩) { scrubbing with session := opened.session }
    let draining := withList .a [{ entryOf (.engine .scrub) .read .scrub 4 with accepted := true }] s
    let t := after (.softReset 0 0) s
    let u := after (.softReset 0 0) draining
    (t.slot 0).map (·.state) = some .ready ∧ (t.lock .scrub).draining = none
      ∧ (u.slot 0).map (·.state) = some .waiting ∧ (u.lock .scrub).draining = some 5
      ∧ (u.port .a).list.map (fun x => (x.ownerGone, x.deadline)) = [(true, 4)] := by decide

theorem test_reset_words :
    State.reset.readWord 23 = 0xFFFE00 ∧ State.reset.readWord 20 = thresholdsValue 64 16 512 ∧ State.reset.readWord 8 = 0
      ∧ State.reset.readWord 13 = 0x50 := by decide

theorem witness_ReadWordsShowTheirFields :
    opened.copy.kind = .none ∧ filling.copy.kind = .fill 0 ∧ rebuilding.copy.kind = .rebuild .c ∧ opened.queue = []
      ∧ (queued 1).queue.length = 1 ∧ opened.records.list = [] ∧ (recorded (recordsOf 16)).records.list.length = 16
      ∧ opened.session.pendingBase = none
      ∧ (after (.moveAperture 0 512) opened).readWord 23 = 0x1000008000FFFE00#64 := by
  decide

theorem test_core_is_this_machine : Sys2Proof.core.reset = State.reset := rfl

end Sys2Proof.Tests
end

section
/-! The health monitor's operations, one rule each: what they do to an account and its cause, and what they leave of the other
accounts and the settings. -/

namespace Sys2Proof

/-! ## Members of a replica set -/

theorem Tri.count_lt_three {m : Tri Bool} {r : Replica} (h : m.get r = false) : m.count < 3 := by
  have ha := Bool.toNat_le m.a
  have hb := Bool.toNat_le m.b
  have hc := Bool.toNat_le m.c
  cases r <;> simp only [Tri.get] at h <;> simp only [Tri.count, h, Bool.toNat_false] <;> omega

/-- A set with a member and not exactly one has another member. -/
theorem Tri.exists_other_of_count_ne_one {m : Tri Bool} {r : Replica} (hr : m.get r = true) (h : m.count ≠ 1) :
    ∃ q, q ≠ r ∧ m.get q = true := by
  by_contra hn
  push Not at hn
  have hothers : ∀ q, q ≠ r → m.get q = false := fun q hq => by simpa using hn q hq
  have honly : m = Tri.only r := Tri.ext_get fun q => by
    by_cases hq : q = r
    · subst hq; simp [hr, Tri.get_only]
    · simp [hothers q hq, Tri.get_only, hq]
  exact h (by rw [honly]; cases r <;> rfl)

end Sys2Proof

namespace Sys2Proof.Machine

open Sys2Proof

/-! ## Accounts -/

theorem Account.votes_iff (a : Account) : a.votes = true ↔ a.state = .healthy ∨ a.state = .suspect := by
  unfold Account.votes; split <;> simp_all

theorem Account.votes_eq_false_iff (a : Account) : a.votes = false ↔ a.state = .retired ∨ a.state = .rebuilding := by
  unfold Account.votes; split <;> simp_all

theorem State.votingCount_lt_three {s : State} {r : Replica} (h : (s.account r).votes = false) : s.votingCount < 3 :=
  Tri.count_lt_three (r := r) (by rw [State.voting_get, h])

/-- The health monitor after an operation on one account: the other accounts, the thresholds and the decay timer as they were. -/
structure HealthMoved (r : Replica) (s t : State) : Prop where
  others : ∀ q, q ≠ r → t.account q = s.account q
  thresholds : t.health.thresholds = s.health.thresholds
  decayTimer : t.health.decayTimer = s.health.decayTimer
  decayInterval : t.health.decayInterval = s.health.decayInterval

theorem HealthMoved.refl (r : Replica) (s : State) : HealthMoved r s s := ⟨fun _ _ => rfl, rfl, rfl, rfl⟩

theorem HealthMoved.trans {r : Replica} {s t u : State} (h : HealthMoved r s t) (h' : HealthMoved r t u) :
    HealthMoved r s u :=
  ⟨fun q hq => (h'.others q hq).trans (h.others q hq), h'.thresholds.trans h.thresholds,
    h'.decayTimer.trans h.decayTimer, h'.decayInterval.trans h.decayInterval⟩

theorem HealthMoved.of_keeps {L : List Part} {s t : State} (r : Replica) (h : Keeps L s t) (hp : Part.health ∉ L) :
    HealthMoved r s t :=
  ⟨fun q _ => h.account hp q, by rw [h.health hp], by rw [h.health hp], by rw [h.health hp]⟩

theorem State.setAccount_healthMoved (r : Replica) (a : Account) (s : State) : HealthMoved r s (s.setAccount r a) :=
  ⟨fun q hq => by rw [State.account_setAccount, if_neg hq], rfl, rfl, rfl⟩

/-- The voting set has as many members when one account changes and votes as before. -/
theorem HealthMoved.votingCount {r : Replica} {s t : State} (h : HealthMoved r s t)
    (hr : (t.account r).votes = (s.account r).votes) : t.votingCount = s.votingCount := by
  have hall : ∀ q, (t.account q).votes = (s.account q).votes := fun q => by
    by_cases hq : q = r
    · rw [hq, hr]
    · rw [h.others q hq]
  simp only [State.votingCount, State.voting_congr hall]

/-! ## The SUSPECT events -/

theorem State.suspectEntry_get (r : Replica) (s : State) :
    (s.suspectEntry r).alerts.causes.get (.health r) =
      (s.alerts.causes.get (.health r)).suspectEntry (s.account r).alertMode := by
  simp [State.suspectEntry, State.updateCause_get]

theorem State.suspectLeave_get (r : Replica) (s : State) :
    (s.suspectLeave r).alerts.causes.get (.health r) =
      (s.alerts.causes.get (.health r)).suspectLeave (s.account r).alertMode := by
  simp [State.suspectLeave, State.updateCause_get]

@[simp] theorem State.suspectEntry_account (r q : Replica) (s : State) : (s.suspectEntry r).account q = s.account q := rfl

@[simp] theorem State.suspectLeave_account (r q : Replica) (s : State) : (s.suspectLeave r).account q = s.account q := rfl

theorem State.setAccount_moved (r : Replica) (a : Account) (L : List Cause) (s : State) :
    AlertsMoved L s (s.setAccount r a) :=
  AlertsMoved.of_keeps (State.setAccount_keeps r a s) (by decide) (by decide)

/-! ## Retirement -/

/-- The health monitor's own part of a retirement (R14): the leave event, the account, the RETIRE event and DEGRADED. -/
def State.retireAccount (r : Replica) (reason : RetireReason) (s : State) : State :=
  let s := if (s.account r).state = .suspect then s.suspectLeave r else s
  let s := s.setAccount r { s.account r with state := .retired, reason := reason }
  (s.raise .retire).handDegraded

theorem State.retireCore_eq (r : Replica) (reason : RetireReason) (s : State) :
    s.retireCore r reason =
      (State.retirePort r { s.retireAccount r reason with repair := (s.retireAccount r reason).repair.retire r }).retireFromQueue
        r := rfl

theorem State.retireAccount_eq_of_suspect {s : State} {r : Replica} {reason : RetireReason}
    (h : (s.account r).state = .suspect) :
    s.retireAccount r reason =
      (((s.suspectLeave r).setAccount r { s.account r with state := .retired, reason := reason }).raise .retire).handDegraded := by
  simp [State.retireAccount, h]

theorem State.retireAccount_account (r : Replica) (reason : RetireReason) (s : State) :
    (s.retireAccount r reason).account r = { s.account r with state := .retired, reason := reason } := by
  have hevents (u : State) : ((u.raise .retire).handDegraded).account r = u.account r := rfl
  simp only [State.retireAccount, hevents, State.account_setAccount_self]
  split <;> rfl

theorem State.retireAccount_healthMoved (r : Replica) (reason : RetireReason) (s : State) :
    HealthMoved r s (s.retireAccount r reason) := by
  have hevents (u : State) : HealthMoved r u (u.raise .retire).handDegraded :=
    (HealthMoved.of_keeps r (State.raise_keeps _ u) (by decide)).trans
      (HealthMoved.of_keeps r (State.handDegraded_keeps _) (by decide))
  unfold State.retireAccount
  simp only
  refine HealthMoved.trans ?_ ((State.setAccount_healthMoved _ _ _).trans (hevents _))
  split
  · exact HealthMoved.of_keeps r (State.suspectLeave_keeps r s) (by decide)
  · exact HealthMoved.refl r s

/-- What follows the health monitor's part of a retirement touches no account and, of the alerts, QUEUE_FULL alone. -/
theorem State.retireCore_after_retireAccount (r : Replica) (reason : RetireReason) (s : State) :
    Keeps [.rt, .ports, .queue, .repair, .scrub, .copy, .alerts] (s.retireAccount r reason) (s.retireCore r reason)
      ∧ AlertsMoved [.queueFull] (s.retireAccount r reason) (s.retireCore r reason) := by
  have hport := (State.retirePort_keeps r _).after (L := [.repair, .ports, .rt, .scrub, .copy]) (by decide)
    (Keeps.with_repair (x := (s.retireAccount r reason).repair.retire r) (by decide) (Keeps.refl _ (s.retireAccount r reason)))
  rw [State.retireCore_eq]
  exact ⟨(State.retireFromQueue_keeps r _).after (by decide) (hport.mono (by decide)),
    (AlertsMoved.of_keeps hport (by decide) (by decide)).trans (State.setQueue_moved _ _)⟩

theorem State.retireCore_account (r q : Replica) (reason : RetireReason) (s : State) :
    (s.retireCore r reason).account q = (s.retireAccount r reason).account q :=
  (State.retireCore_after_retireAccount r reason s).1.account (by decide) q

theorem State.retireCore_cause {c : Cause} (h : c ≠ .queueFull) (r : Replica) (reason : RetireReason) (s : State) :
    (s.retireCore r reason).alerts.causes.get c = (s.retireAccount r reason).alerts.causes.get c :=
  (State.retireCore_after_retireAccount r reason s).2.others c (by simpa using h)

theorem State.retireCore_account_self (r : Replica) (reason : RetireReason) (s : State) :
    (s.retireCore r reason).account r = { s.account r with state := .retired, reason := reason } := by
  rw [State.retireCore_account, State.retireAccount_account]

theorem State.retireCore_healthMoved (r : Replica) (reason : RetireReason) (s : State) :
    HealthMoved r s (s.retireCore r reason) :=
  (State.retireAccount_healthMoved r reason s).trans
    (HealthMoved.of_keeps r (State.retireCore_after_retireAccount r reason s).1 (by decide))

theorem State.retireCore_retire_latch (r : Replica) (reason : RetireReason) (s : State) :
    (s.retireCore r reason).alerts.causes.retire.latch = true := by
  have h := State.retireCore_cause (c := .retire) (by decide) r reason s
  simp only [Causes.get] at h
  rw [h]
  have hdegraded (u : State) : u.handDegraded.alerts.causes.get .retire = u.alerts.causes.get .retire :=
    (State.handDegraded_moved u).others _ (by decide)
  exact (congrArg CauseState.latch (hdegraded _)).trans (State.raise_latch .retire _)

/-- A retired replica does not vote, so DEGRADED holds (R179). -/
theorem State.retireCore_degraded_condition (r : Replica) (reason : RetireReason) (s : State) :
    (s.retireCore r reason).alerts.causes.degraded.condition = true := by
  have h := State.retireCore_cause (c := .degraded) (by decide) r reason s
  simp only [Causes.get] at h
  rw [h]
  have hcount : (s.retireAccount r reason).votingCount < 3 :=
    State.votingCount_lt_three (r := r) (by rw [State.retireAccount_account]; rfl)
  have hcond (u : State) : u.handDegraded.alerts.causes.degraded.condition = decide (u.handDegraded.votingCount < 3) :=
    (congrArg CauseState.condition (State.setCondition_get .degraded _ u)).trans (CauseState.setCondition_condition _ _)
  exact (hcond _).trans (decide_eq_true hcount)

theorem State.retireCore_health_of_suspect {r : Replica} {s : State} (reason : RetireReason)
    (h : (s.account r).state = .suspect) :
    (s.retireCore r reason).alerts.causes.get (.health r) =
      (s.alerts.causes.get (.health r)).suspectLeave (s.account r).alertMode := by
  have hevents (u : State) : (u.raise .retire).handDegraded.alerts.causes.get (.health r) = u.alerts.causes.get (.health r) :=
    ((State.handDegraded_moved _).others _ (by simp)).trans ((State.raise_moved .retire u).others _ (by simp))
  rw [State.retireCore_cause (by simp), State.retireAccount_eq_of_suspect h, hevents, State.setAccount_alerts,
    State.suspectLeave_get]

/-- A copy in progress is ended by a retirement only when nobody votes any more (R159). -/
theorem State.retire_eq_retireCore {r : Replica} {s : State} (reason : RetireReason) (hr : (s.account r).votes = true)
    (h : s.votingCount ≠ 1) : s.retire r reason = s.retireCore r reason := by
  obtain ⟨q, hq, hvotes⟩ := Tri.exists_other_of_count_ne_one ((State.voting_get s r).trans hr) h
  have hne : (s.retireCore r reason).voting.isEmpty = false :=
    (Tri.isEmpty_eq_false_iff _).2 ⟨q, by
      rw [State.voting_get, (State.retireCore_healthMoved r reason s).others q hq, ← State.voting_get, hvotes]⟩
  simp [State.retire, hne]

/-! ## Charges -/

/-- The score of an account after a charge (R4), limited as R2 says. -/
def State.chargedScore (r : Replica) (kind : ChargeKind) (s : State) : Nat := min ((s.account r).score + kind.weight) 1023

theorem State.charge_of_not_votes {r : Replica} {s : State} (kind : ChargeKind) (h : (s.account r).votes = false) :
    s.charge r kind = s := by
  simp [State.charge, h]

theorem State.charge_of_votes {r : Replica} {s : State} (kind : ChargeKind) (h : (s.account r).votes = true) :
    s.charge r kind = (s.applyCharge r kind).autoRetire r := by
  simp [State.charge, h]

theorem State.applyCharge_of_crossing {r : Replica} {kind : ChargeKind} {s : State} (h : (s.account r).state = .healthy)
    (hs : s.health.thresholds.suspectAt ≤ s.chargedScore r kind) :
    s.applyCharge r kind =
      (s.setAccount r { s.account r with score := s.chargedScore r kind, state := .suspect }).suspectEntry r :=
  if_pos ⟨h, hs⟩

theorem State.applyCharge_of_not_crossing {r : Replica} {kind : ChargeKind} {s : State}
    (h : ¬((s.account r).state = .healthy ∧ s.health.thresholds.suspectAt ≤ s.chargedScore r kind)) :
    s.applyCharge r kind = s.setAccount r { s.account r with score := s.chargedScore r kind } :=
  if_neg h

theorem State.applyCharge_healthMoved (r : Replica) (kind : ChargeKind) (s : State) :
    HealthMoved r s (s.applyCharge r kind) := by
  unfold State.applyCharge
  simp only
  split
  · exact (State.setAccount_healthMoved _ _ _).trans (HealthMoved.of_keeps r (State.suspectEntry_keeps _ _) (by decide))
  · exact State.setAccount_healthMoved _ _ _

/-- The four conditions of R5. -/
def State.mustRetire (r : Replica) (s : State) : Prop :=
  (s.account r).state = .suspect ∧ s.health.thresholds.retireAt ≤ (s.account r).score
    ∧ s.health.thresholds.autoRetire = true ∧ s.votingCount = 3

theorem State.autoRetire_of_mustRetire {r : Replica} {s : State} (h : s.mustRetire r) :
    s.autoRetire r = s.retireCore r .score := by
  obtain ⟨hstate, hscore, hon, hcount⟩ := h
  rw [← State.retire_eq_retireCore .score ((Account.votes_iff _).2 (.inr hstate)) (by omega)]
  exact if_pos ⟨hstate, hscore, hon, hcount⟩

theorem State.autoRetire_of_not_mustRetire {r : Replica} {s : State} (h : ¬s.mustRetire r) : s.autoRetire r = s :=
  if_neg h

theorem State.autoRetire_healthMoved (r : Replica) (s : State) : HealthMoved r s (s.autoRetire r) := by
  by_cases h : s.mustRetire r
  · rw [State.autoRetire_of_mustRetire h]
    exact State.retireCore_healthMoved _ _ _
  · rw [State.autoRetire_of_not_mustRetire h]
    exact HealthMoved.refl _ _

theorem State.charge_healthMoved (r : Replica) (kind : ChargeKind) (s : State) : HealthMoved r s (s.charge r kind) := by
  unfold State.charge
  split
  · exact (State.applyCharge_healthMoved _ _ _).trans (State.autoRetire_healthMoved _ _)
  · exact HealthMoved.refl _ _

/-- The state after R4 has left an account SUSPECT with this score: its entry event when it was HEALTHY, no event else. -/
structure LeftSuspect (r : Replica) (score : Nat) (s v : State) : Prop where
  account : v.account r = { s.account r with score := score, state := .suspect }
  entered : (s.account r).state = .healthy →
    v.alerts.causes.get (.health r) = (s.alerts.causes.get (.health r)).suspectEntry (s.account r).alertMode
  stayed : (s.account r).state = .suspect → v.alerts = s.alerts
  moved : AlertsMoved [.health r] s v
  keeps : Keeps [.health, .alerts] s v

theorem State.applyCharge_leftSuspect {r : Replica} {kind : ChargeKind} {s : State} (hv : (s.account r).votes = true)
    (hs : (s.account r).state = .suspect ∨ s.health.thresholds.suspectAt ≤ s.chargedScore r kind) :
    LeftSuspect r (s.chargedScore r kind) s (s.applyCharge r kind) := by
  have hkeeps := State.applyCharge_keeps r kind s
  rcases (Account.votes_iff _).1 hv with hstate | hstate
  · have hcross := State.applyCharge_of_crossing hstate (hs.resolve_left (by simp [hstate]))
    rw [hcross] at hkeeps ⊢
    exact {
      account := by rw [State.suspectEntry_account, State.account_setAccount_self]
      entered := fun _ => by rw [State.suspectEntry_get, State.account_setAccount_self, State.setAccount_alerts]
      stayed := fun h => by simp [hstate] at h
      moved := (State.setAccount_moved r _ _ s).trans (State.suspectEntry_moved r _)
      keeps := hkeeps }
  · have hstay := State.applyCharge_of_not_crossing (r := r) (kind := kind) (s := s) (by simp [hstate])
    rw [hstay] at hkeeps ⊢
    exact {
      account := by simp [hstate]
      entered := fun h => by simp [hstate] at h
      stayed := fun _ => rfl
      moved := State.setAccount_moved r _ _ s
      keeps := hkeeps }

/-- R5 after R4: of an account left SUSPECT, the test is on its new score, the settings and the voting set as they were. -/
theorem LeftSuspect.mustRetire_iff {r : Replica} {score : Nat} {s v : State} (h : LeftSuspect r score s v)
    (hm : HealthMoved r s v) (hv : (s.account r).votes = true) :
    v.mustRetire r ↔ s.health.thresholds.retireAt ≤ score ∧ s.health.thresholds.autoRetire = true ∧ s.votingCount = 3 := by
  have hcount : v.votingCount = s.votingCount := hm.votingCount (by rw [h.account, hv]; rfl)
  simp [State.mustRetire, h.account, hm.thresholds, hcount]

theorem State.charge_of_not_suspects {r : Replica} {kind : ChargeKind} {s : State} (hv : (s.account r).votes = true)
    (hs : ¬((s.account r).state = .suspect ∨ s.health.thresholds.suspectAt ≤ s.chargedScore r kind)) :
    s.charge r kind = s.setAccount r { s.account r with score := s.chargedScore r kind } := by
  obtain ⟨hstate, hbelow⟩ := not_or.1 hs
  rw [State.charge_of_votes kind hv, State.applyCharge_of_not_crossing fun h => hbelow h.2]
  exact State.autoRetire_of_not_mustRetire fun h => hstate (by simpa using h.1)

/-- Settles O47: R3 discards; else R4 leaves the account as applyCharge says, and R5 retires it or leaves that state. -/
theorem chargeRaisesScoreAndTests : Obligations.ChargeRaisesScoreAndTests := by
  unfold Obligations.ChargeRaisesScoreAndTests
  intro s r kind
  have hmoved := State.charge_healthMoved r kind s
  have happly := State.applyCharge_healthMoved r kind s
  refine ⟨State.charge_of_not_votes kind, fun hv hs => ?below, fun hv hs hr => ?suspects, fun hv hr => ?retires,
    hmoved.others, hmoved.thresholds, hmoved.decayTimer, hmoved.decayInterval, rfl, rfl, rfl, rfl, rfl⟩
  case below =>
    rw [State.charge_of_not_suspects hv hs]
    exact ⟨State.account_setAccount_self _ _ _, rfl, State.setAccount_keeps _ _ _⟩
  case suspects =>
    have hleft := State.applyCharge_leftSuspect hv hs
    have hstays : ¬(s.applyCharge r kind).mustRetire r := fun h => hr ⟨hs, (hleft.mustRetire_iff happly hv).1 h⟩
    rw [State.charge_of_votes kind hv, State.autoRetire_of_not_mustRetire hstays]
    exact ⟨hleft.account, hleft.entered, hleft.stayed, hleft.moved, hleft.keeps⟩
  case retires =>
    obtain ⟨hs, htest⟩ := hr
    have hleft := State.applyCharge_leftSuspect hv hs
    have hcharge : s.charge r kind = (s.applyCharge r kind).retireCore r .score := by
      rw [State.charge_of_votes kind hv, State.autoRetire_of_mustRetire ((hleft.mustRetire_iff happly hv).2 htest)]
    have hleave := State.retireCore_health_of_suspect .score (s := s.applyCharge r kind) (r := r) (by rw [hleft.account])
    refine ⟨?_, ?_, ?_, s.applyCharge r kind, hleft.account, hleft.entered, hleft.stayed, hleft.moved, hleft.keeps, hcharge, ?_⟩
    · rw [hcharge, State.retireCore_account_self, hleft.account]; rfl
    · rw [hcharge]; exact State.retireCore_retire_latch _ _ _
    · rw [hcharge]; exact State.retireCore_degraded_condition _ _ _
    · rw [hcharge, hleave, hleft.account]

end Sys2Proof.Machine
end

section
/-! The replica operand and SCORE_CLEAR. -/

namespace Sys2Proof.Machine

open Sys2Proof

theorem replicaOperand_eq_none {v : Word} (h : 3 ≤ v.toNat) : replicaOperand v = none := by
  unfold replicaOperand
  split <;> first | rfl | omega

theorem replicaOperand_eq_some {v : Word} {r : Replica} (h : v.toNat = r.number) : replicaOperand v = some r := by
  unfold replicaOperand
  rw [h]
  cases r <;> rfl

theorem State.commandScoreClear_of_no_replica {v : Word} (h : replicaOperand v = none) (s : State) :
    s.commandScoreClear v = (.refusedArgument, s) := by
  simp [State.commandScoreClear, h]

theorem State.commandScoreClear_of_not_votes {v : Word} {r : Replica} {s : State} (h : replicaOperand v = some r)
    (hv : (s.account r).votes = false) : s.commandScoreClear v = (.refusedState, s) := by
  rcases (Account.votes_eq_false_iff _).1 hv with hstate | hstate <;> simp [State.commandScoreClear, h, hstate]

theorem State.commandScoreClear_of_healthy {v : Word} {r : Replica} {s : State} (h : replicaOperand v = some r)
    (hstate : (s.account r).state = .healthy) :
    s.commandScoreClear v = (.done, s.setAccount r { s.account r with score := 0, state := .healthy }) := by
  simp [State.commandScoreClear, h, hstate]

theorem State.commandScoreClear_of_suspect {v : Word} {r : Replica} {s : State} (h : replicaOperand v = some r)
    (hstate : (s.account r).state = .suspect) :
    s.commandScoreClear v =
      (.done, (s.setAccount r { s.account r with score := 0, state := .healthy }).suspectLeave r) := by
  simp [State.commandScoreClear, h, hstate]

/-- What a SCORE_CLEAR that is DONE leaves (R15). -/
structure ScoreCleared (r : Replica) (s u : State) : Prop where
  account : u.account r = { s.account r with score := 0, state := .healthy }
  stayed : (s.account r).state = .healthy → u.alerts = s.alerts
  left : (s.account r).state = .suspect →
    u.alerts.causes.get (.health r) = (s.alerts.causes.get (.health r)).suspectLeave (s.account r).alertMode
  moved : AlertsMoved [.health r] s u
  health : HealthMoved r s u
  keeps : Keeps [.health, .alerts] s u

theorem State.commandScoreClear_of_votes {v : Word} {r : Replica} {s : State} (h : replicaOperand v = some r)
    (hv : (s.account r).votes = true) : ∃ u, s.commandScoreClear v = (.done, u) ∧ ScoreCleared r s u := by
  have haccount := State.setAccount_keeps r { s.account r with score := 0, state := .healthy } s
  have hhealth := State.setAccount_healthMoved r { s.account r with score := 0, state := .healthy } s
  have hmoved := State.setAccount_moved r { s.account r with score := 0, state := .healthy } [.health r] s
  rcases (Account.votes_iff _).1 hv with hstate | hstate
  · refine ⟨_, State.commandScoreClear_of_healthy h hstate, ?_⟩
    exact {
      account := State.account_setAccount_self _ _ _
      stayed := fun _ => rfl
      left := fun hs => by simp [hstate] at hs
      moved := hmoved
      health := hhealth
      keeps := haccount.mono (by decide) }
  · refine ⟨_, State.commandScoreClear_of_suspect h hstate, ?_⟩
    exact {
      account := by rw [State.suspectLeave_account, State.account_setAccount_self]
      stayed := fun hs => by simp [hstate] at hs
      left := fun _ => by rw [State.suspectLeave_get, State.account_setAccount_self, State.setAccount_alerts]
      moved := hmoved.trans (State.suspectLeave_moved r _)
      health := hhealth.trans (HealthMoved.of_keeps r (State.suspectLeave_keeps r _) (by decide))
      keeps := haccount.step (State.suspectLeave_keeps r _) (by decide) (by decide) }

/-- Settles O23: the three answers of SCORE_CLEAR, each carried through the acceptance of a write to word 46. -/
theorem scoreClearCommandAnswers : Obligations.ScoreClearCommandAnswers := by
  unfold Obligations.ScoreClearCommandAnswers
  intro s tag v hready
  have haccess : wordAccess 46 = .writeOnly ∨ wordAccess 46 = .readWrite := by decide
  have hexec : exec (.scoreClear tag v) s = .next (s.acceptWordWrite tag 46 v) := rfl
  refine ⟨fun h => ⟨_, hexec, ?argument⟩, fun r hr => ⟨fun hv => ⟨_, hexec, ?state⟩, fun hv => ?done⟩⟩
  case argument =>
    exact State.acceptWordWrite_refused hready (by decide) haccess rfl
      (State.commandScoreClear_of_no_replica (replicaOperand_eq_none h) s) (by decide)
  case state =>
    exact State.acceptWordWrite_refused hready (by decide) haccess rfl
      (State.commandScoreClear_of_not_votes (replicaOperand_eq_some hr) hv) (by decide)
  case done =>
    obtain ⟨u, hcommand, hclear⟩ := State.commandScoreClear_of_votes (replicaOperand_eq_some hr) hv
    have hholding : u.rt.holding = s.rt.holding := by rw [hclear.keeps.rt (by decide)]
    exact ⟨u, _, hexec, State.acceptWordWrite_taken hready (by decide) haccess rfl hcommand hholding, hclear.account,
      hclear.health.others, hclear.stayed, hclear.left, hclear.moved, hclear.health.thresholds, hclear.health.decayTimer,
      hclear.health.decayInterval, hclear.keeps⟩

end Sys2Proof.Machine
end

section
/-! The region operand, the staged policy of a region, one descriptor's change, and the two region commands. -/

namespace Sys2Proof.Machine

open Sys2Proof

/-! ## Operands -/

theorem regionOperand_eq_none {v : Word} (h : 8 ≤ v.toNat) : regionOperand v = none :=
  dif_neg (Nat.not_lt.2 h)

theorem regionOperand_eq_some {v : Word} {n : RegionId} (h : v.toNat = n.val) : regionOperand v = some n := by
  simp [regionOperand, h]

/-- The read mode of a staged policy, from its two bits (section 11.6). -/
theorem readModeOperand_eq (v : Word) :
    readModeOperand v = if v.toNat % 4 < 2 then some (if v.toNat % 4 = 0 then .vote else .fast) else none := by
  have hfield : v.field 0 2 = v.toNat % 4 := by simp [Word.field]
  unfold readModeOperand
  rw [hfield]
  match v.toNat % 4 with
  | 0 => rfl
  | 1 => rfl
  | x + 2 => exact (if_neg (Nat.not_lt.2 (Nat.le_add_left 2 x))).symm

/-- The scrub flag of a staged policy, from its two bits (section 11.6). -/
theorem scrubOperand_eq (v : Word) :
    scrubOperand v = if v.toNat / 4 % 4 < 2 then some (decide (v.toNat / 4 % 4 = 1)) else none := by
  have hfield : v.field 2 2 = v.toNat / 4 % 4 := rfl
  unfold scrubOperand
  rw [hfield]
  match v.toNat / 4 % 4 with
  | 0 => rfl
  | 1 => rfl
  | x + 2 => exact (if_neg (Nat.not_lt.2 (Nat.le_add_left 2 x))).symm

/-! ## Check 5 of R55 -/

/-- Some enabled descriptor other than n shares a block with the range from first to last (R55). -/
def Regions.SharesBlock (t : Regions) (n : RegionId) (first last : Nat) : Prop :=
  ∃ m : RegionId, m ≠ n ∧ t.descriptors[m].enabled = true ∧ first ≤ t.descriptors[m].last ∧ t.descriptors[m].first ≤ last

theorem RegionId.mem_all (m : RegionId) : m ∈ [(0 : RegionId), 1, 2, 3, 4, 5, 6, 7] := by
  revert m; decide

theorem Regions.overlaps_iff (t : Regions) (n : RegionId) (first last : Nat) :
    t.overlaps n first last = true ↔ t.SharesBlock n first last := by
  simp only [Regions.overlaps, Regions.SharesBlock, List.any_eq_true, Bool.and_eq_true, bne_iff_ne, decide_eq_true_eq,
    and_assoc, RegionId.mem_all, true_and]

/-! ## A change of one descriptor -/

/-- The state with the contents of descriptor n replaced. -/
def State.setDescriptor (n : RegionId) (d : Descriptor) (s : State) : State :=
  { s with regions := { s.regions with descriptors := s.regions.descriptors.set n.val d n.isLt } }

/-- Descriptor n holds d, and nothing else has changed: what a region command that is DONE leaves (R56, R57). -/
structure DescriptorChanged (n : RegionId) (d : Descriptor) (s u : State) : Prop where
  holds : u.regions.descriptors[n] = d
  others : ∀ m : RegionId, m ≠ n → u.regions.descriptors[m] = s.regions.descriptors[m]
  defaultScrub : u.regions.defaultScrub = s.regions.defaultScrub
  fillMark : u.regions.fillMark = s.regions.fillMark
  keeps : Keeps [.regions] s u

theorem State.setDescriptor_changed (n : RegionId) (d : Descriptor) (s : State) :
    DescriptorChanged n d s (s.setDescriptor n d) where
  holds := Vector.getElem_set_self n.isLt
  others := fun m hm => Vector.getElem_set_ne n.isLt m.isLt fun h => hm (Fin.ext h.symm)
  defaultScrub := rfl
  fillMark := rfl
  keeps := (Keeps.refl _ s).with_regions (by decide)

/-! ## REGION_SET, check by check (R55) -/

theorem State.commandRegionSet_of_no_region {v : Word} (h : regionOperand v = none) (s : State) :
    s.commandRegionSet v = (.refusedArgument, s) := by
  simp [State.commandRegionSet, h]

theorem State.commandRegionSet_of_filled {v : Word} {n : RegionId} {s : State} (hn : regionOperand v = some n)
    (hfill : s.regions.fillMark = some n) : s.commandRegionSet v = (.busy, s) := by
  simp [State.commandRegionSet, hn, hfill]

section RegionSet

variable {v : Word} {n : RegionId} {s : State}

theorem State.commandRegionSet_of_invalid_policy (hn : regionOperand v = some n) (hfill : s.regions.fillMark ≠ some n)
    (h : readModeOperand s.session.stages[2] = none ∨ scrubOperand s.session.stages[2] = none) :
    s.commandRegionSet v = (.refusedArgument, s) := by
  simp only [State.commandRegionSet, hn, if_neg hfill]
  split
  · rename_i hmode hscrub
    simp [hmode, hscrub] at h
  · rfl

/-- Checks 4 to 6, once the staged read mode and scrub flag are valid. -/
theorem State.commandRegionSet_of_policy {mode : ReadMode} {scrub : Bool} (hn : regionOperand v = some n)
    (hfill : s.regions.fillMark ≠ some n) (hmode : readModeOperand s.session.stages[2] = some mode)
    (hscrub : scrubOperand s.session.stages[2] = some scrub) :
    s.commandRegionSet v =
      if (s.session.stages[1]).toNat < (s.session.stages[0]).toNat ∨ s.spanBlocks ≤ (s.session.stages[1]).toNat then
        (.refusedArgument, s)
      else if s.regions.overlaps n (s.session.stages[0]).toNat (s.session.stages[1]).toNat then (.refusedArgument, s)
      else
        (.done, s.setDescriptor n
          { enabled := true, first := (s.session.stages[0]).toNat, last := (s.session.stages[1]).toNat, mode := mode,
            scrub := scrub }) := by
  simp only [State.commandRegionSet, hn, if_neg hfill, hmode, hscrub, State.setDescriptor]

/-- Some one of checks 3 to 5 matches the staging words. -/
theorem State.commandRegionSet_of_bad_staging (hn : regionOperand v = some n) (hfill : s.regions.fillMark ≠ some n)
    (h : 2 ≤ (s.session.stages[2]).toNat % 4 ∨ 2 ≤ (s.session.stages[2]).toNat / 4 % 4
      ∨ (s.session.stages[1]).toNat < (s.session.stages[0]).toNat ∨ s.spanBlocks ≤ (s.session.stages[1]).toNat
      ∨ s.regions.SharesBlock n (s.session.stages[0]).toNat (s.session.stages[1]).toNat) :
    s.commandRegionSet v = (.refusedArgument, s) := by
  have hmode := readModeOperand_eq s.session.stages[2]
  have hscrub := scrubOperand_eq s.session.stages[2]
  by_cases hm : (s.session.stages[2]).toNat % 4 < 2
  case neg => exact State.commandRegionSet_of_invalid_policy hn hfill (.inl (by rw [hmode, if_neg hm]))
  by_cases hs : (s.session.stages[2]).toNat / 4 % 4 < 2
  case neg => exact State.commandRegionSet_of_invalid_policy hn hfill (.inr (by rw [hscrub, if_neg hs]))
  rw [if_pos hm] at hmode
  rw [if_pos hs] at hscrub
  rw [State.commandRegionSet_of_policy hn hfill hmode hscrub]
  rcases h with h | h | h | h | h
  · exact absurd hm (Nat.not_lt.2 h)
  · exact absurd hs (Nat.not_lt.2 h)
  · rw [if_pos (.inl h)]
  · rw [if_pos (.inr h)]
  · rw [if_pos ((Regions.overlaps_iff _ _ _ _).2 h), ite_self]

/-- The descriptor the staging words ask for (R55, section 11.6). -/
def State.stagedDescriptor (s : State) : Descriptor where
  enabled := true
  first := (s.session.stages[0]).toNat
  last := (s.session.stages[1]).toNat
  mode := if (s.session.stages[2]).toNat % 4 = 0 then .vote else .fast
  scrub := decide ((s.session.stages[2]).toNat / 4 % 4 = 1)

theorem State.commandRegionSet_of_good_staging (hn : regionOperand v = some n) (hfill : s.regions.fillMark ≠ some n)
    (hmode : (s.session.stages[2]).toNat % 4 < 2) (hscrub : (s.session.stages[2]).toNat / 4 % 4 < 2)
    (horder : (s.session.stages[0]).toNat ≤ (s.session.stages[1]).toNat)
    (hspan : (s.session.stages[1]).toNat < s.spanBlocks)
    (hapart : ¬s.regions.SharesBlock n (s.session.stages[0]).toNat (s.session.stages[1]).toNat) :
    s.commandRegionSet v = (.done, s.setDescriptor n s.stagedDescriptor) := by
  rw [State.commandRegionSet_of_policy hn hfill ((readModeOperand_eq _).trans (if_pos hmode))
      ((scrubOperand_eq _).trans (if_pos hscrub)),
    if_neg (not_or.2 ⟨Nat.not_lt.2 horder, Nat.not_le.2 hspan⟩), if_neg (mt (Regions.overlaps_iff _ _ _ _).1 hapart)]
  rfl

end RegionSet

/-! ## REGION_CLEAR (R57) -/

theorem State.commandRegionClear_of_no_region {v : Word} (h : regionOperand v = none) (s : State) :
    s.commandRegionClear v = (.refusedArgument, s) := by
  simp [State.commandRegionClear, h]

theorem State.commandRegionClear_of_filled {v : Word} {n : RegionId} {s : State} (hn : regionOperand v = some n)
    (hfill : s.regions.fillMark = some n) : s.commandRegionClear v = (.busy, s) := by
  simp [State.commandRegionClear, hn, hfill]

theorem State.commandRegionClear_of_not_filled {v : Word} {n : RegionId} {s : State} (hn : regionOperand v = some n)
    (hfill : s.regions.fillMark ≠ some n) :
    s.commandRegionClear v = (.done, s.setDescriptor n { s.regions.descriptors[n] with enabled := false }) := by
  simp only [State.commandRegionClear, hn, if_neg hfill, State.setDescriptor]

/-- Settles O22: the answers of REGION_SET and REGION_CLEAR, each carried through the acceptance of a write to words 44 and 45. -/
theorem regionCommandsAnswer : Obligations.RegionCommandsAnswer := by
  unfold Obligations.RegionCommandsAnswer
  constructor
  · intro s tag v hready first last mode scrub
    have haccess : wordAccess 44 = .writeOnly ∨ wordAccess 44 = .readWrite := by decide
    have hexec : exec (.regionSet tag v) s = .next (s.acceptWordWrite tag 44 v) := rfl
    refine ⟨fun h => ⟨_, hexec, ?argument⟩, fun n hv => ?region⟩
    case argument =>
      exact State.acceptWordWrite_refused hready (by decide) haccess rfl
        (State.commandRegionSet_of_no_region (regionOperand_eq_none h) s) (by decide)
    case region =>
      have hn := regionOperand_eq_some hv
      refine ⟨fun hfill => ⟨_, hexec, ?busy⟩, fun hfill hbad => ⟨_, hexec, ?staging⟩,
        fun hfill hmode hscrub horder hspan hapart => ?done⟩
      case busy =>
        exact State.acceptWordWrite_refused hready (by decide) haccess rfl (State.commandRegionSet_of_filled hn hfill) (by decide)
      case staging =>
        exact State.acceptWordWrite_refused hready (by decide) haccess rfl
          (State.commandRegionSet_of_bad_staging hn hfill hbad) (by decide)
      case done =>
        have hcommand := State.commandRegionSet_of_good_staging hn hfill hmode hscrub horder hspan hapart
        have hchanged := State.setDescriptor_changed n s.stagedDescriptor s
        exact ⟨_, _, hexec, State.acceptWordWrite_taken hready (by decide) haccess rfl hcommand rfl, hchanged.holds,
          hchanged.others, hchanged.defaultScrub, hchanged.fillMark, hchanged.keeps⟩
  · intro s tag v hready
    have haccess : wordAccess 45 = .writeOnly ∨ wordAccess 45 = .readWrite := by decide
    have hexec : exec (.regionClear tag v) s = .next (s.acceptWordWrite tag 45 v) := rfl
    refine ⟨fun h => ⟨_, hexec, ?argument⟩, fun n hv => ⟨fun hfill => ⟨_, hexec, ?busy⟩, fun hfill => ?done⟩⟩
    case argument =>
      exact State.acceptWordWrite_refused hready (by decide) haccess rfl
        (State.commandRegionClear_of_no_region (regionOperand_eq_none h) s) (by decide)
    case busy =>
      exact State.acceptWordWrite_refused hready (by decide) haccess rfl
        (State.commandRegionClear_of_filled (regionOperand_eq_some hv) hfill) (by decide)
    case done =>
      have hcommand := State.commandRegionClear_of_not_filled (regionOperand_eq_some hv) hfill
      have hchanged := State.setDescriptor_changed n { s.regions.descriptors[n] with enabled := false } s
      exact ⟨_, _, hexec, State.acceptWordWrite_taken hready (by decide) haccess rfl hcommand rfl, hchanged.holds,
        hchanged.others, hchanged.defaultScrub, hchanged.fillMark, hchanged.keeps⟩

end Sys2Proof.Machine
end

section
/-! The per-word table of R63, by the number of contributing replicas. -/

namespace Sys2Proof.Machine

open Sys2Proof

/-! ## Three contributing replicas -/

theorem voteWord_three_equal (x : Word) : voteWord ⟨some x, some x, some x⟩ = .clean x := by
  simp [voteWord]

/-- The two that agree outvote the third, whichever replica it is. -/
theorem voteWord_two_of_three {x y : Word} (hxy : x ≠ y) (r : Replica) :
    voteWord (Tri.ofFn fun q => some (if q = r then y else x)) = .corrected x r := by
  cases r with
  | a => simp [voteWord, Tri.ofFn, hxy.symm]
  | b => simp [voteWord, Tri.ofFn, hxy]
  | c => simp [voteWord, Tri.ofFn, hxy]

theorem voteWord_three_different {x y z : Word} (hxy : x ≠ y) (hyz : y ≠ z) (hxz : x ≠ z) :
    voteWord ⟨some x, some y, some z⟩ = .divergent := by
  simp [voteWord, hxy, hyz, hxz]

/-! ## Two contributing replicas -/

/-- The decision on two contributing values. -/
def votePair (x y : Word) : WordOutcome := if x = y then .clean x else .divergent

theorem voteWord_without_c (x y : Word) : voteWord ⟨some x, some y, none⟩ = votePair x y := rfl

theorem voteWord_without_b (x y : Word) : voteWord ⟨some x, none, some y⟩ = votePair x y := rfl

theorem voteWord_without_a (x y : Word) : voteWord ⟨none, some x, some y⟩ = votePair x y := rfl

theorem votePair_self (x : Word) : votePair x x = .clean x := if_pos rfl

theorem votePair_of_ne {x y : Word} (hxy : x ≠ y) : votePair x y = .divergent := if_neg hxy

/-! ## One contributing replica -/

theorem voteWord_only (x : Word) (r : Replica) :
    voteWord (Tri.ofFn fun q => if q = r then some x else none) = .single x := by
  cases r <;> rfl

/-- Settles O38: the rows of the table by the number of contributing replicas, then the value and the status of each outcome. -/
theorem wordVoteFollowsTable : Obligations.WordVoteFollowsTable := by
  unfold Obligations.WordVoteFollowsTable
  intro x y z
  have houtvoted (hxy : x ≠ y) := voteWord_two_of_three hxy
  have hsingle := voteWord_only x
  refine ⟨voteWord_three_equal x, fun hxy => ⟨houtvoted hxy .c, houtvoted hxy .b, houtvoted hxy .a, ?ab, ?ac, ?bc⟩,
    voteWord_three_different, ?abEqual, ?acEqual, ?bcEqual, hsingle .a, hsingle .b, hsingle .c, ?nobody, ?values⟩
  case ab => rw [voteWord_without_c, votePair_of_ne hxy]
  case ac => rw [voteWord_without_b, votePair_of_ne hxy]
  case bc => rw [voteWord_without_a, votePair_of_ne hxy]
  case abEqual => rw [voteWord_without_c, votePair_self]
  case acEqual => rw [voteWord_without_b, votePair_self]
  case bcEqual => rw [voteWord_without_a, votePair_self]
  case nobody => rfl
  case values => simp [WordOutcome.value, WordOutcome.status]

end Sys2Proof.Machine
end

section
/-! The repair queue: the three ends of an insertion, the alert unit under a depth that does not change, and QUEUE_FLUSH. -/

namespace Sys2Proof.Machine

open Sys2Proof

/-! ## A condition handed again -/

theorem Causes.set_get_self {α : Type} (m : Causes α) (c : Cause) : m.set c (m.get c) = m := by
  cases c with
  | health r => simp only [Causes.set, Causes.get, Tri.set_get_self]
  | _ => rfl

/-- A level cause that is handed the condition it has does not move (R180). -/
theorem CauseState.setCondition_self (c : CauseState) : c.setCondition c.condition = c := by
  cases h : c.condition <;> simp [CauseState.setCondition, CauseState.rise, CauseState.fall, h]

/-- A line that follows R186 is not moved by its re-evaluation. -/
theorem State.refreshLine_of_lineWf {s : State} (h : s.LineWf) : s.refreshLine = s := by
  have hline : (!s.pins.resetAsserted && s.alerts.standing) = s.alerts.asserted := by
    rw [Bool.eq_iff_iff, Bool.and_eq_true, Bool.not_eq_true', Alerts.standing_iff]
    exact h.symm
  simp only [State.refreshLine, hline]

theorem State.setCondition_of_same {s : State} {c : Cause} {b : Bool} (hline : s.LineWf)
    (hb : (s.alerts.causes.get c).condition = b) : s.setCondition c b = s := by
  subst hb
  simp only [State.setCondition, State.updateCause, CauseState.setCondition_self, Causes.set_get_self]
  exact State.refreshLine_of_lineWf hline

/-- A new content of the same depth moves no alert (R109, R179). -/
theorem State.setQueue_alerts_of_length_eq {s : State} {q : List QueueEntry} (h : s.AlertsWf)
    (hq : q.length = s.queue.length) : (s.setQueue q).alerts = s.alerts := by
  have hcondition : s.alerts.causes.queueFull.condition = (q.length == Config.queueDepth) := by
    rw [Bool.eq_iff_iff, beq_iff_eq, hq]
    exact h.queueFull
  have hsame := State.setCondition_of_same (s := { s with queue := q }) (c := .queueFull) h.line hcondition
  exact (congrArg State.alerts hsame :)

/-! ## An insertion into the queue (R108, R109) -/

/-- An entry after an insertion of its block has merged into it (R108). -/
def QueueEntry.merge (mask : ReplicaSet) (attempts : Nat) (x : QueueEntry) : QueueEntry :=
  { x with mask := x.mask.union mask, attempts := max x.attempts attempts }

section Insertion

variable {q : List QueueEntry} {block : Nat} (mask : ReplicaSet) (attempts : Nat)

theorem insertEntry_of_present (h : (q.any fun e => e.block == block) = true) :
    insertEntry q block mask attempts = some (q.map fun e => if e.block == block then e.merge mask attempts else e) :=
  if_pos h

/-- The one entry of the block takes the insertion and keeps its place. -/
theorem insertEntry_of_entry {pre post : List QueueEntry} {x : QueueEntry} (hx : x.block = block)
    (hothers : ∀ y ∈ pre ++ post, y.block ≠ block) :
    insertEntry (pre ++ x :: post) block mask attempts = some (pre ++ x.merge mask attempts :: post) := by
  have hkept {l : List QueueEntry} (h : ∀ y ∈ l, y.block ≠ block) :
      (l.map fun e => if e.block == block then e.merge mask attempts else e) = l :=
    (List.map_congr_left (g := id) fun y hy => if_neg (by simpa using h y hy)).trans (List.map_id l)
  have hpre := hkept fun y hy => hothers y (List.mem_append_left _ hy)
  have hpost := hkept fun y hy => hothers y (List.mem_append_right _ hy)
  rw [insertEntry_of_present mask attempts (by simp [hx])]
  rw [List.map_append, List.map_cons, hpre, hpost, if_pos (by simp [hx])]

theorem insertEntry_of_absent (h : ∀ y ∈ q, y.block ≠ block) :
    insertEntry q block mask attempts =
      if q.length < 32 then some (q ++ [{ block := block, mask := mask, attempts := attempts }]) else none := by
  have hany : ¬(q.any fun e => e.block == block) = true := by simpa using h
  exact if_neg hany

end Insertion

section InsertRepair

variable {s : State} {block attempts : Nat} {named : ReplicaSet}

theorem State.insertRepair_of_nobody_votes (h : (named.inter s.voting).isEmpty = true) :
    s.insertRepair block named attempts = (s, false) := if_pos h

theorem State.insertRepair_of_stored {q : List QueueEntry} (h : (named.inter s.voting).isEmpty = false)
    (hq : insertEntry s.queue block (named.inter s.voting) attempts = some q) :
    s.insertRepair block named attempts = (s.setQueue q, true) := by
  simp [State.insertRepair, h, hq]

theorem State.insertRepair_of_not_stored (h : (named.inter s.voting).isEmpty = false)
    (hq : insertEntry s.queue block (named.inter s.voting) attempts = none) :
    s.insertRepair block named attempts = (s, false) := by
  simp [State.insertRepair, h, hq]

end InsertRepair

/-- Settles O45: nothing is left to insert, or the block has its entry, or it has none and the depth decides. -/
theorem insertionMergesAppendsOrDrops : Obligations.InsertionMergesAppendsOrDrops := by
  unfold Obligations.InsertionMergesAppendsOrDrops
  intro s block attempts named mask res
  refine ⟨State.insertRepair_of_nobody_votes, fun pre x post hmask hqueue hx hothers => ?merges,
    fun hmask habsent hroom => ?appends, fun hmask habsent hfull => ?drops⟩
  case merges =>
    have hres : res = (s.setQueue (pre ++ x.merge mask attempts :: post), true) :=
      State.insertRepair_of_stored hmask (hqueue ▸ insertEntry_of_entry mask attempts hx hothers)
    have hdepth : (pre ++ x.merge mask attempts :: post).length = s.queue.length := by simp [hqueue]
    rw [hres, ← hdepth]
    exact ⟨rfl, State.setQueue_queue _ s, State.setQueue_queueFull _ s, State.setQueue_moved _ s,
      fun hwf => State.setQueue_alerts_of_length_eq hwf hdepth, State.setQueue_keeps _ s⟩
  case appends =>
    have hentry := (insertEntry_of_absent mask attempts habsent).trans (if_pos hroom)
    have hres : res = (s.setQueue _, true) := State.insertRepair_of_stored hmask hentry
    rw [hres]
    exact ⟨rfl, State.setQueue_queue _ s, State.setQueue_queueFull _ s, State.setQueue_moved _ s, State.setQueue_keeps _ s⟩
  case drops =>
    exact State.insertRepair_of_not_stored hmask
      ((insertEntry_of_absent mask attempts habsent).trans (if_neg (Nat.not_lt.2 hfull)))

/-! ## QUEUE_FLUSH (R113) -/

/-- Settles O24: the queue takes the empty content, carried through the acceptance of a write to word 47. -/
theorem queueFlushEmptiesQueue : Obligations.QueueFlushEmptiesQueue := by
  unfold Obligations.QueueFlushEmptiesQueue
  intro s tag v hready
  have hexec : exec (.queueFlush tag v) s = .next (s.acceptWordWrite tag 47 v) := rfl
  have haccess : wordAccess 47 = .writeOnly ∨ wordAccess 47 = .readWrite := by decide
  have hcommand : s.writeWord 47 v = (.done, s.setQueue []) := rfl
  have hholding : (s.setQueue []).rt.holding = s.rt.holding := by rw [(State.setQueue_keeps [] s).rt (by decide)]
  exact ⟨s.setQueue [], _, hexec, State.acceptWordWrite_taken hready (by decide) haccess rfl hcommand hholding,
    State.setQueue_queue [] s, State.setQueue_queueFull [] s, State.setQueue_moved [] s, State.setQueue_keeps [] s⟩

end Sys2Proof.Machine
end

section
/-! What the repair engine's claim leaves of the part, and REPAIR_TAKE. -/

namespace Sys2Proof.Machine

open Sys2Proof

/-- A part that a step may change, but has not, leaves its frame. -/
theorem Keeps.drop {p : Part} {L M : List Part} {s t : State} (h : Keeps L s t) (hp : p.same s t) (hL : L ⊆ p :: M) :
    Keeps M s t := fun x hx => by
  by_cases hxp : x = p
  · exact hxp ▸ hp
  · exact h x fun hxL => (List.mem_cons.1 (hL hxL)).elim hxp hx

/-! ## A grant to another engine leaves the repair engine alone -/

section OtherGrant

variable {e : Engine} (he : e ≠ .repair) (block : Nat) (s : State)
include he

theorem State.grantClaim_repair_of_ne : (s.grantClaim e block).repair = s.repair := by
  have hgranted (u : State) : (u.engineGranted e).repair = u.repair := by
    cases e with
    | repair => exact absurd rfl he
    | scrub => rfl
    | copy => cases hkind : u.copy.kind <;> simp [State.engineGranted, hkind]
  unfold State.grantClaim
  rw [hgranted]
  split <;> rfl

theorem State.grantClaim_lock_repair_of_ne : (s.grantClaim e block).lock .repair = s.lock .repair := by
  have hskip (u : State) : u.skipScrub.lock .repair = u.lock .repair := State.lock_setLock .scrub .repair _ u
  have hset : (s.setLock e { s.lock e with held := some block, claim := none }).lock .repair = s.lock .repair := by
    rw [State.lock_setLock, if_neg he.symm]
  unfold State.grantClaim
  rw [(State.engineGranted_keeps e _).lock (by decide)]
  split
  · exact (hskip _).trans hset
  · exact hset

theorem State.grantEarlier_repair_of_ne : (s.grantEarlier e block).repair = s.repair := by
  unfold State.grantEarlier
  split
  · exact State.grantClaim_repair_of_ne he block s
  · rfl

theorem State.grantEarlier_lock_repair_of_ne : (s.grantEarlier e block).lock .repair = s.lock .repair := by
  unfold State.grantEarlier
  split
  · exact State.grantClaim_lock_repair_of_ne he block s
  · rfl

end OtherGrant

/-! ## The repair engine's claim -/

/-- The state in which the repair engine's claim is noted: the earlier claims of lower rank that nothing holds back are granted
(log 6). -/
def State.beforeRepairClaim (block : Nat) (s : State) : State := (s.grantEarlier .copy block).grantEarlier .scrub block

theorem State.claim_repair_eq (block : Nat) (s : State) :
    s.claim .repair block =
      (s.beforeRepairClaim block).setLock .repair { (s.beforeRepairClaim block).lock .repair with claim := some block } := rfl

theorem State.beforeRepairClaim_repair (block : Nat) (s : State) : (s.beforeRepairClaim block).repair = s.repair :=
  (State.grantEarlier_repair_of_ne (by decide) block _).trans (State.grantEarlier_repair_of_ne (by decide) block s)

theorem State.beforeRepairClaim_lock_repair (block : Nat) (s : State) :
    (s.beforeRepairClaim block).lock .repair = s.lock .repair :=
  (State.grantEarlier_lock_repair_of_ne (by decide) block _).trans (State.grantEarlier_lock_repair_of_ne (by decide) block s)

theorem State.claim_repair_lock (block : Nat) (s : State) :
    (s.claim .repair block).lock .repair = { s.lock .repair with claim := some block } := by
  rw [State.claim_repair_eq, State.lock_setLock_self, State.beforeRepairClaim_lock_repair]

/-- The repair engine's claim does not change the active repair. -/
theorem State.claim_repair_keeps (block : Nat) (s : State) : Keeps [.rt, .copy, .scrub] s (s.claim .repair block) :=
  (State.claim_keeps .repair block s).drop (p := .repair) (State.beforeRepairClaim_repair block s) (by decide)

/-! ## REPAIR_TAKE (R115) -/

/-- The active repair that REPAIR_TAKE makes of an entry. -/
def State.repairOf (head : QueueEntry) (s : State) : Repair :=
  { Repair.idle with
    phase := .claim
    block := head.block
    mask := head.mask
    attempts := head.attempts
    sources := s.voting.diff head.mask }

/-- The state in which REPAIR_TAKE makes its claim: the head is the active repair, and the rest is the queue. -/
def State.headTaken (head : QueueEntry) (rest : List QueueEntry) (s : State) : State :=
  { s.setQueue rest with repair := s.repairOf head }

theorem exec_repairTake_of_head {s : State} {head : QueueEntry} {rest : List QueueEntry} (hidle : s.repair.phase = .idle)
    (hqueue : s.queue = head :: rest) :
    exec .repairTake s = .next ((s.headTaken head rest).claim .repair head.block) := by
  have hexec : exec .repairTake s = execRepairTake s := rfl
  rw [hexec, execRepairTake, hidle, hqueue]
  rfl

theorem State.repairOf_sources (head : QueueEntry) (s : State) (r : Replica) :
    (s.repairOf head).sources.get r = true ↔ (s.account r).votes = true ∧ head.mask.get r = false := by
  simp [State.repairOf, State.voting_get]

theorem State.headTaken_keeps (head : QueueEntry) (rest : List QueueEntry) (s : State) :
    Keeps [.queue, .repair, .alerts] s (s.headTaken head rest) :=
  ((State.setQueue_keeps rest s).mono (by decide)).with_repair (by decide)

theorem State.headTaken_moved (head : QueueEntry) (rest : List QueueEntry) (s : State) :
    AlertsMoved [.queueFull] s (s.headTaken head rest) :=
  (State.setQueue_moved rest s).trans
    (AlertsMoved.of_keeps ((Keeps.refl [.repair] (s.setQueue rest)).with_repair (by decide)) (by decide) (by decide))

/-- Settles O29: the head becomes the active repair, and what follows is the repair engine's claim on its block. -/
theorem repairTakeTakesHead : Obligations.RepairTakeTakesHead := by
  unfold Obligations.RepairTakeTakesHead
  intro s head rest hidle hqueue
  have hkeeps := State.headTaken_keeps head rest s
  have hlock (e : Engine) : (s.headTaken head rest).lock e = s.lock e := hkeeps.lock (by decide) e
  have hclaimLock := State.claim_repair_lock head.block (s.headTaken head rest)
  rw [hlock] at hclaimLock
  refine ⟨s.headTaken head rest, _, exec_repairTake_of_head hidle hqueue, rfl, rfl, rfl, rfl, rfl, rfl,
    State.repairOf_sources head s, State.setQueue_queueFull rest s, State.headTaken_moved head rest s, hkeeps, rfl, hclaimLock,
    fun hfree => ?noOther, State.claim_repair_keeps head.block _⟩
  have hfree' : (s.headTaken head rest).NoOtherClaim .repair head.block := fun e he => by
    rw [hlock]; exact hfree e he
  rw [State.claim_of_noOtherClaim _ _ _ hfree']
  refine ⟨?_, ?_, ?_, State.setLock_keeps _ _ _⟩
  · rw [State.lock_setLock, if_neg (by decide), hlock]
  · rw [State.lock_setLock, if_neg (by decide), hlock]
  · rw [State.setLock_rt, hkeeps.rt (by decide)]

end Sys2Proof.Machine
end

section
/-! The start abort of a port with no entries, what REBUILD changes of a target, and the REBUILD command. -/

namespace Sys2Proof

theorem Tri.isEmpty_iff_count_eq_zero (m : Tri Bool) : m.isEmpty = true ↔ m.count = 0 := by
  simp [Tri.isEmpty, Tri.count, and_assoc]

end Sys2Proof

namespace Sys2Proof.Machine

open Sys2Proof

theorem State.voting_isEmpty_iff (s : State) : s.voting.isEmpty = true ↔ s.votingCount = 0 :=
  Tri.isEmpty_iff_count_eq_zero s.voting

/-! ## The target's port (R96, R98) -/

/-- The port unit after an operation on one port: the other ports and the unit's registers as they were. -/
structure PortMoved (r : Replica) (s t : State) : Prop where
  others : ∀ q, q ≠ r → t.port q = s.port q
  runCount : t.ports.runCount = s.ports.runCount
  replyTimeout : t.ports.replyTimeout = s.ports.replyTimeout
  keeps : Keeps [.ports] s t

theorem PortMoved.refl (r : Replica) (s : State) : PortMoved r s s := ⟨fun _ _ => rfl, rfl, rfl, Keeps.refl _ s⟩

theorem State.setPort_portMoved (r : Replica) (p : Port) (s : State) : PortMoved r s (s.setPort r p) :=
  ⟨fun q hq => by rw [State.port_setPort, if_neg hq], rfl, rfl, State.setPort_keeps r p s⟩

theorem PortMoved.trans {r : Replica} {s t u : State} (h : PortMoved r s t) (h' : PortMoved r t u) : PortMoved r s u :=
  ⟨fun q hq => (h'.others q hq).trans (h.others q hq), h'.runCount.trans h.runCount, h'.replyTimeout.trans h.replyTimeout,
    h.keeps.trans h'.keeps⟩

/-- With no entry in the list there is no loss to hand on (R95 step 2). -/
theorem State.emptyPort_of_list_nil {r : Replica} {s : State} (h : (s.port r).list = []) :
    s.emptyPort r = s.setPort r { s.port r with state := .aborting, list := [], abortLimit := some Config.abortTicks } := by
  simp [State.emptyPort, h]

theorem State.beginAbort_portMoved {r : Replica} {s : State} (h : (s.port r).list = []) :
    PortMoved r s (s.beginAbort r) := by
  rw [State.beginAbort, State.emptyPort_of_list_nil h]
  exact (State.setPort_portMoved r _ s).trans (State.setPort_portMoved r _ _)

theorem State.beginAbort_port_self {r : Replica} {s : State} (h : (s.port r).list = []) :
    (s.beginAbort r).port r = { s.port r with state := .aborting, abortLimit := some 16, abort := true } := by
  simp [State.beginAbort, State.assertAbort, State.emptyPort_of_list_nil h, h, Config.abortTicks]

theorem State.rebuildPort_of_off {r : Replica} {s : State} (h : (s.port r).state = .off) :
    s.rebuildPort r = s.beginAbort r := by
  simp [State.rebuildPort, h]

theorem State.rebuildPort_of_not_off {r : Replica} {s : State} (h : (s.port r).state ≠ .off) : s.rebuildPort r = s := by
  unfold State.rebuildPort
  split
  · exact absurd ‹_› h
  · rfl
  · rfl

theorem State.rebuildPort_portMoved {r : Replica} {s : State} (h : (s.port r).state = .off → (s.port r).list = []) :
    PortMoved r s (s.rebuildPort r) := by
  by_cases hoff : (s.port r).state = .off
  · rw [State.rebuildPort_of_off hoff]
    exact State.beginAbort_portMoved (h hoff)
  · rw [State.rebuildPort_of_not_off hoff]
    exact PortMoved.refl r s

/-! ## The start of a rebuild (R16, R149) -/

/-- The copy context of a rebuild of this replica that starts, with the last block it ends at. -/
def Copy.startRebuild (r : Replica) (last : Nat) (c : Copy) : Copy :=
  { c with
    kind := .rebuild r, state := .starting, step := .none, pointer := 0, endBlock := last, skipCount := 0, op := .none }

/-- The account of a replica whose rebuild starts. -/
def Account.startRebuild (a : Account) : Account := { a with state := .rebuilding, score := 0, reason := .none }

/-- The state in which REBUILD turns to the target's port: the copy context and the account are set. -/
def State.startRebuild (r : Replica) (s : State) : State :=
  State.setAccount r (s.account r).startRebuild { s with copy := s.copy.startRebuild r (s.spanBlocks - 1) }

theorem State.startRebuild_keeps (r : Replica) (s : State) : Keeps [.copy, .health] s (s.startRebuild r) :=
  ((Keeps.refl _ s).with_copy (by decide)).trans ((State.setAccount_keeps r _ _).mono (by decide))

theorem State.startRebuild_account_self (r : Replica) (s : State) :
    (s.startRebuild r).account r = (s.account r).startRebuild := State.account_setAccount_self r _ _

theorem State.startRebuild_healthMoved (r : Replica) (s : State) : HealthMoved r s (s.startRebuild r) :=
  (HealthMoved.of_keeps (L := [.copy]) r ((Keeps.refl _ s).with_copy (by decide)) (by decide)).trans
    (State.setAccount_healthMoved r _ _)

/-- What a REBUILD that is DONE leaves (R16, R98, R149). -/
structure RebuildStarted (r : Replica) (s u : State) : Prop where
  copy : u.copy = s.copy.startRebuild r (s.spanBlocks - 1)
  account : u.account r = (s.account r).startRebuild
  health : HealthMoved r s u
  otherPorts : ∀ q, q ≠ r → u.port q = s.port q
  portOfOff : (s.port r).state = .off →
    u.port r = { s.port r with state := .aborting, abortLimit := some 16, abort := true }
  portOfNotOff : (s.port r).state ≠ .off → u.port r = s.port r
  runCount : u.ports.runCount = s.ports.runCount
  replyTimeout : u.ports.replyTimeout = s.ports.replyTimeout
  keeps : Keeps [.copy, .health, .ports] s u

theorem State.rebuildPort_startRebuild {r : Replica} {s : State} (h : (s.port r).state = .off → (s.port r).list = []) :
    RebuildStarted r s ((s.startRebuild r).rebuildPort r) := by
  have hstart := State.startRebuild_keeps r s
  have hports : (s.startRebuild r).ports = s.ports := hstart.ports (by decide)
  have hport (q : Replica) : (s.startRebuild r).port q = s.port q := hstart.port (by decide) q
  have hmoved : PortMoved r (s.startRebuild r) ((s.startRebuild r).rebuildPort r) :=
    State.rebuildPort_portMoved (by rwa [hport])
  exact {
    copy := hmoved.keeps.copy (by decide)
    account := (hmoved.keeps.account (by decide) r).trans (State.startRebuild_account_self r s)
    health := (State.startRebuild_healthMoved r s).trans (HealthMoved.of_keeps r hmoved.keeps (by decide))
    otherPorts := fun q hq => (hmoved.others q hq).trans (hport q)
    portOfOff := fun hoff => by
      rw [State.rebuildPort_of_off (by rwa [hport]), State.beginAbort_port_self (by rw [hport]; exact h hoff), hport]
    portOfNotOff := fun hoff => by rw [State.rebuildPort_of_not_off (by rwa [hport]), hport]
    runCount := by rw [hmoved.runCount, hports]
    replyTimeout := by rw [hmoved.replyTimeout, hports]
    keeps := hstart.step hmoved.keeps (by decide) (by decide) }

/-! ## REBUILD, check by check (R149) -/

theorem State.commandRebuild_of_no_replica {v : Word} (h : replicaOperand v = none) (s : State) :
    s.commandRebuild v = (.refusedArgument, s) := by
  simp [State.commandRebuild, h]

section Rebuild

variable {v : Word} {r : Replica} {s : State}

theorem State.commandRebuild_of_copying (hr : replicaOperand v = some r) (hcopy : s.copy.state ≠ .idle) :
    s.commandRebuild v = (.busy, s) := by
  simp [State.commandRebuild, hr, hcopy]

theorem State.commandRebuild_of_not_retired (hr : replicaOperand v = some r) (hcopy : s.copy.state = .idle)
    (hstate : (s.account r).state ≠ .retired) : s.commandRebuild v = (.refusedState, s) := by
  simp [State.commandRebuild, hr, hcopy, hstate]

theorem State.commandRebuild_of_retired (hr : replicaOperand v = some r) (hcopy : s.copy.state = .idle)
    (hstate : (s.account r).state = .retired) :
    s.commandRebuild v =
      if s.voting.isEmpty then (.refusedState, s) else (.done, (s.startRebuild r).rebuildPort r) := by
  simp only [State.commandRebuild, hr, hcopy, hstate, ne_eq, not_true_eq_false, if_false]
  rfl

theorem State.commandRebuild_of_refused_state (hr : replicaOperand v = some r) (hcopy : s.copy.state = .idle)
    (h : (s.account r).state ≠ .retired ∨ s.votingCount = 0) : s.commandRebuild v = (.refusedState, s) := by
  by_cases hstate : (s.account r).state = .retired
  · have hnobody := (State.voting_isEmpty_iff s).2 (h.resolve_left (not_not.2 hstate))
    rw [State.commandRebuild_of_retired hr hcopy hstate, if_pos hnobody]
  · exact State.commandRebuild_of_not_retired hr hcopy hstate

theorem State.commandRebuild_of_checks_passed (hr : replicaOperand v = some r) (hcopy : s.copy.state = .idle)
    (hstate : (s.account r).state = .retired) (hvoting : s.votingCount ≠ 0) :
    s.commandRebuild v = (.done, (s.startRebuild r).rebuildPort r) := by
  rw [State.commandRebuild_of_retired hr hcopy hstate, if_neg (mt (State.voting_isEmpty_iff s).1 hvoting)]

end Rebuild

/-- Settles O20: the answers of REBUILD, each carried through the acceptance of a write to word 41. -/
theorem rebuildCommandAnswers : Obligations.RebuildCommandAnswers := by
  unfold Obligations.RebuildCommandAnswers
  intro s tag v hready
  have haccess : wordAccess 41 = .writeOnly ∨ wordAccess 41 = .readWrite := by decide
  have hexec : exec (.rebuild tag v) s = .next (s.acceptWordWrite tag 41 v) := rfl
  have hrefused {o : ResultOutcome} (hcommand : s.commandRebuild v = (o, s)) (ho : o ≠ .done) :
      ∃ t, exec (.rebuild tag v) s = .next t ∧ WriteRefused tag 41 o s t :=
    ⟨_, hexec, State.acceptWordWrite_refused hready (by decide) haccess rfl hcommand ho⟩
  refine ⟨fun h => hrefused (State.commandRebuild_of_no_replica (replicaOperand_eq_none h) s) (by decide), fun r hv => ?_⟩
  have hr := replicaOperand_eq_some hv
  refine ⟨fun hcopy => hrefused (State.commandRebuild_of_copying hr hcopy) (by decide),
    fun hcopy h => hrefused (State.commandRebuild_of_refused_state hr hcopy h) (by decide),
    fun hcopy hstate hvoting hlist => ?done⟩
  case done =>
    have hcommand := State.commandRebuild_of_checks_passed hr hcopy hstate hvoting
    have hstarted := State.rebuildPort_startRebuild hlist
    have hholding : ((s.startRebuild r).rebuildPort r).rt.holding = s.rt.holding := by rw [hstarted.keeps.rt (by decide)]
    exact ⟨_, _, hexec, State.acceptWordWrite_taken hready (by decide) haccess rfl hcommand hholding, hstarted.copy,
      hstarted.account, fun q hq => ⟨hstarted.health.others q hq, hstarted.otherPorts q hq⟩, hstarted.portOfOff,
      hstarted.portOfNotOff, hstarted.health.thresholds, hstarted.health.decayTimer, hstarted.health.decayInterval,
      hstarted.runCount, hstarted.replyTimeout, hstarted.keeps⟩

end Sys2Proof.Machine
end

section
/-! The fault record list: which record an event meets, the three ends of a record event, and RECORD_RELEASE. -/

namespace Sys2Proof.Machine

open Sys2Proof

theorem Keeps.with_records {L : List Part} {s t : State} {x : Records} (hp : Part.records ∈ L) (h : Keeps L s t) :
    Keeps L s { t with records := x } := by
  refine h.trans fun p hn => ?_
  cases p <;> first | rfl | exact absurd hp hn

/-! ## The record an event meets (R164) -/

theorem FaultRecord.sameAs_iff (x : FaultRecord) (e : RecordEvent) :
    x.sameAs e = true ↔ x.block = e.block ∧ x.kind = e.kind := by
  simp [FaultRecord.sameAs]

section Take

variable {l : Records} {e : RecordEvent}

/-- Records of other blocks or kinds are left as they stand. -/
theorem FaultRecord.map_merge_of_absent {list : List FaultRecord} (h : ∀ y ∈ list, ¬(y.block = e.block ∧ y.kind = e.kind)) :
    (list.map fun y => if y.sameAs e then y.merge e else y) = list :=
  (List.map_congr_left (g := id) fun y hy => if_neg (mt (FaultRecord.sameAs_iff y e).1 (h y hy))).trans (List.map_id list)

/-- The one record of the event's block and kind takes the event and keeps its place (R166). -/
theorem Records.take_of_record {pre post : List FaultRecord} {x : FaultRecord} (hlist : l.list = pre ++ x :: post)
    (hx : x.block = e.block ∧ x.kind = e.kind) (hothers : ∀ y ∈ pre ++ post, ¬(y.block = e.block ∧ y.kind = e.kind)) :
    l.take e = some { l with list := pre ++ x.merge e :: post } := by
  have hsame : x.sameAs e = true := (FaultRecord.sameAs_iff x e).2 hx
  have hpre := FaultRecord.map_merge_of_absent fun y hy => hothers y (List.mem_append_left _ hy)
  have hpost := FaultRecord.map_merge_of_absent fun y hy => hothers y (List.mem_append_right _ hy)
  have hany : (l.list.any fun y => y.sameAs e) = true := List.any_eq_true.2 ⟨x, by simp [hlist], hsame⟩
  rw [Records.take, if_pos hany, hlist, List.map_append, List.map_cons, hpre, hpost, if_pos hsame]

/-- Without a record of its block and kind an event needs a free place (R165, R167). -/
theorem Records.take_of_absent (h : ∀ y ∈ l.list, ¬(y.block = e.block ∧ y.kind = e.kind)) :
    l.take e =
      if l.list.length < 16 then some { l with list := l.list ++ [e.create l.nextSeq], nextSeq := wrap16 l.nextSeq }
      else none := by
  have hany : ¬(l.list.any fun y => y.sameAs e) = true := fun hany => by
    obtain ⟨y, hy, hsame⟩ := List.any_eq_true.1 hany
    exact h y hy ((FaultRecord.sameAs_iff y e).1 hsame)
  exact if_neg hany

end Take

/-! ## The ends of a record event (R166, R167) -/

section RecordEvent

variable {s : State} {e : RecordEvent}

theorem State.recordEvent_of_taken {l : Records} (hmask : e.mask.isEmpty = false) (hl : s.records.take e = some l) :
    s.recordEvent e = { s with records := l } := by
  simp [State.recordEvent, hmask, hl]

/-- The list after an event that it drops (R167). -/
def Records.drop (l : Records) : Records := { l with lost := saturate255 l.lost }

theorem State.recordEvent_of_dropped (hmask : e.mask.isEmpty = false) (hl : s.records.take e = none) :
    s.recordEvent e = State.raise .recordsLost { s with records := s.records.drop } := by
  simp [State.recordEvent, hmask, hl, Records.drop]

end RecordEvent

theorem State.raise_get (c : Cause) (s : State) :
    (s.raise c).alerts.causes.get c = { s.alerts.causes.get c with latch := true } := by
  simp [State.raise, State.updateCause_get, CauseState.event]

/-- Settles O44: the list has the one record of the block and kind, or it has none and the count decides. -/
theorem recordEventMergesCreatesOrDrops : Obligations.RecordEventMergesCreatesOrDrops := by
  unfold Obligations.RecordEventMergesCreatesOrDrops
  intro s e hmask
  refine ⟨fun pre x post hlist hblock hkind hothers => ?merges, fun habsent hroom => ?creates, fun habsent hfull => ?drops⟩
  case merges =>
    exact State.recordEvent_of_taken hmask (Records.take_of_record hlist ⟨hblock, hkind⟩ hothers)
  case creates =>
    exact State.recordEvent_of_taken hmask ((Records.take_of_absent habsent).trans (if_pos hroom))
  case drops =>
    have hdropped : s.recordEvent e = State.raise .recordsLost { s with records := s.records.drop } :=
      State.recordEvent_of_dropped hmask ((Records.take_of_absent habsent).trans (if_neg (Nat.not_lt.2 hfull)))
    have hlist : Keeps [.records] s { s with records := s.records.drop } := (Keeps.refl _ s).with_records (by decide)
    have hmoved : AlertsMoved [.recordsLost] s (State.raise .recordsLost { s with records := s.records.drop }) :=
      (AlertsMoved.of_keeps hlist (by decide) (by decide)).trans (State.raise_moved _ _)
    refine ⟨?_, ?_, hdropped ▸ hmoved, State.recordEvent_keeps e s⟩
    · exact congrArg State.records hdropped
    · rw [hdropped]
      exact State.raise_get .recordsLost _

/-! ## RECORD_RELEASE (R170) -/

section Release

variable {s : State} {v : Word} {head : FaultRecord} {rest : List FaultRecord}

theorem State.recordRelease_of_empty (v : Word) (h : s.records.list = []) : s.recordRelease v = (.refusedState, s) := by
  simp [State.recordRelease, h]

/-- The sequence stands in the low sixteen bits of the written value, the repeat count in the eight above. -/
theorem State.recordRelease_of_head (h : s.records.list = head :: rest) :
    s.recordRelease v =
      if v.toNat % 65536 = head.sequence ∧ v.toNat / 65536 % 256 = head.repeats then
        (.done, { s with records := { s.records with list := rest } })
      else (.stale, s) := by
  simp [State.recordRelease, h, Word.field]

theorem State.recordRelease_of_stale (h : s.records.list = head :: rest)
    (hv : v.toNat % 65536 ≠ head.sequence ∨ v.toNat / 65536 % 256 ≠ head.repeats) : s.recordRelease v = (.stale, s) :=
  (State.recordRelease_of_head h).trans (if_neg fun ⟨hsequence, hrepeats⟩ => hv.elim (· hsequence) (· hrepeats))

theorem State.recordRelease_of_match (h : s.records.list = head :: rest) (hsequence : v.toNat % 65536 = head.sequence)
    (hrepeats : v.toNat / 65536 % 256 = head.repeats) :
    s.recordRelease v = (.done, { s with records := { s.records with list := rest } }) :=
  (State.recordRelease_of_head h).trans (if_pos ⟨hsequence, hrepeats⟩)

end Release

/-- Settles O18: the three answers of RECORD_RELEASE, each carried through the acceptance of a write to word 9. -/
theorem recordReleaseTakesMatchingHead : Obligations.RecordReleaseTakesMatchingHead := by
  unfold Obligations.RecordReleaseTakesMatchingHead
  intro s tag v hready
  have haccess : wordAccess 9 = .writeOnly ∨ wordAccess 9 = .readWrite := by decide
  have hexec : exec (.recordRelease tag v) s = .next (s.acceptWordWrite tag 9 v) := rfl
  have hrefused {o : ResultOutcome} (hrelease : s.recordRelease v = (o, s)) (ho : o ≠ .done) :
      ∃ t, exec (.recordRelease tag v) s = .next t ∧ WriteRefused tag 9 o s t :=
    ⟨_, hexec, State.acceptWordWrite_refused hready (by decide) haccess rfl hrelease ho⟩
  refine ⟨fun hempty => hrefused (State.recordRelease_of_empty v hempty) (by decide), fun head rest hlist =>
    ⟨fun hv => hrefused (State.recordRelease_of_stale hlist hv) (by decide), fun hsequence hrepeats => ?released⟩⟩
  case released =>
    have hrelease := State.recordRelease_of_match hlist hsequence hrepeats
    exact ⟨_, _, hexec, State.acceptWordWrite_taken hready (by decide) haccess rfl hrelease rfl, rfl⟩

end Sys2Proof.Machine
end

section
/-! The moves of one cause: a level cause by its condition and its acknowledge, HEALTH_r by its mode. -/

namespace Sys2Proof.Machine

/-! ## A level cause (R180) -/

section Level

variable {c : CauseState}

/-- A condition that becomes true takes the cause to ACTIVE, whatever the latch holds. -/
theorem CauseState.setCondition_true_of_false (h : c.condition = false) : c.setCondition true = .active := by
  simp [CauseState.setCondition, CauseState.rise, h]

/-- A condition that becomes false keeps the latch unless the cause is acknowledged. -/
theorem CauseState.setCondition_false_of_true (h : c.condition = true) :
    c.setCondition false = { latch := c.latch && !c.acked, condition := false, acked := false } := by
  simp [CauseState.setCondition, CauseState.fall, h]

/-- An acknowledge taken while the condition is true is remembered. -/
theorem CauseState.levelAck_of_true (h : c.condition = true) : c.levelAck = { c with acked := c.latch } := by
  simp [CauseState.levelAck, h]

theorem CauseState.levelAck_of_false (h : c.condition = false) : c.levelAck = { c with latch := false } := by
  simp [CauseState.levelAck, h]

end Level

/-! ## HEALTH_r (R182) -/

theorem CauseState.suspectEntry_level (c : CauseState) : c.suspectEntry .level = c.setCondition true := rfl

theorem CauseState.suspectLeave_level (c : CauseState) : c.suspectLeave .level = c.setCondition false := rfl

theorem CauseState.suspectEntry_condition (m : AlertMode) (c : CauseState) : (c.suspectEntry m).condition = true := by
  cases m with
  | level => exact CauseState.setCondition_condition true c
  | edge | entry => rfl

theorem CauseState.suspectLeave_condition (m : AlertMode) (c : CauseState) : (c.suspectLeave m).condition = false := by
  cases m with
  | level => exact CauseState.setCondition_condition false c
  | edge | entry => rfl

/-- Settles O46: R178 and the edge modes of R182 are the operations' own equations; the four states of R180 move by the condition
they stand in. -/
theorem causesMoveByTheirTables : Obligations.CausesMoveByTheirTables := by
  unfold Obligations.CausesMoveByTheirTables
  refine ⟨fun c => ⟨rfl, rfl⟩, ?conditions, ?acknowledges, fun c => ?health⟩
  case conditions =>
    exact ⟨CauseState.setCondition_true_of_false rfl, CauseState.setCondition_true_of_false rfl,
      CauseState.setCondition_false_of_true rfl, CauseState.setCondition_false_of_true rfl⟩
  case acknowledges =>
    exact ⟨CauseState.levelAck_of_false rfl, CauseState.levelAck_of_true rfl, CauseState.levelAck_of_true rfl,
      CauseState.levelAck_of_false rfl⟩
  case health =>
    exact ⟨c.suspectEntry_level, c.suspectLeave_level, rfl, rfl, rfl, rfl,
      fun m => ⟨c.suspectEntry_condition m, c.suspectLeave_condition m⟩⟩

end Sys2Proof.Machine
end

section
/-! MOVE_APERTURE: the check of the byte address, and the pending base. -/

namespace Sys2Proof.Machine

open Sys2Proof

section MoveAperture

variable {s : State} {v : Word}

/-- The command tests for the bad address (R194), so a good one takes its second branch. -/
theorem State.commandMoveAperture_of_placed (h : v.toNat % 512 = 0 ∧ v.toNat + 512 ≤ s.spanBytes) :
    s.commandMoveAperture v = (.done, { s with session := { s.session with pendingBase := some v.toNat } }) :=
  have ⟨haligned, hwithin⟩ := h
  if_neg fun hbad => hbad.elim (· haligned) (Nat.not_lt.2 hwithin)

theorem State.commandMoveAperture_of_not_placed (h : ¬(v.toNat % 512 = 0 ∧ v.toNat + 512 ≤ s.spanBytes)) :
    s.commandMoveAperture v = (.refusedArgument, s) :=
  if_pos ((not_and_or.1 h).imp_right Nat.lt_of_not_le)

end MoveAperture

/-- Settles O25: the two answers of MOVE_APERTURE, each carried through the acceptance of a write to word 48. -/
theorem moveApertureSetsPendingBase : Obligations.MoveApertureSetsPendingBase := by
  unfold Obligations.MoveApertureSetsPendingBase
  intro s tag v hready
  have haccess : wordAccess 48 = .writeOnly ∨ wordAccess 48 = .readWrite := by decide
  have hexec : exec (.moveAperture tag v) s = .next (s.acceptWordWrite tag 48 v) := rfl
  have hword : s.writeWord 48 v = s.commandMoveAperture v := rfl
  refine ⟨fun hplaced => ?pending, fun hplaced => ?refused⟩
  case pending =>
    have hcommand := hword.trans (State.commandMoveAperture_of_placed hplaced)
    exact ⟨_, _, hexec, State.acceptWordWrite_taken hready (by decide) haccess rfl hcommand rfl, rfl⟩
  case refused =>
    have hcommand := hword.trans (State.commandMoveAperture_of_not_placed hplaced)
    exact ⟨_, hexec, State.acceptWordWrite_refused hready (by decide) haccess rfl hcommand (by decide)⟩

end Sys2Proof.Machine
end

section
/-! Predicates that the shared operations keep. A predicate kept by the few reports a decision makes is kept by the decision, and a
predicate kept by every decision that is ready is kept by settling. Each invariant of Safety.lean is carried through a step this way. -/

namespace Sys2Proof.Machine

open Sys2Proof

/-! ## Predicates that do not look at some parts -/

/-- The predicate does not look at the parts listed. -/
def Ignores (L : List Part) (P : State → Prop) : Prop := ∀ s t, Keeps L s t → P s → P t

theorem Ignores.of_keeps {L M : List Part} {P : State → Prop} (h : Ignores L P) {s t : State} (hk : Keeps M s t) (hM : M ⊆ L)
    (hs : P s) : P t := h s t (hk.mono hM) hs

theorem State.with_freeIndex_keeps (s : State) (n : Nat) : Keeps [.freeIndex] s { s with freeIndex := n } := by
  intro p hp; cases p <;> first | rfl | exact absurd hp (by decide)

theorem State.withPending_keeps (s : State) (q : List Instr) : Keeps [.pending] s (s.withPending q) := by
  intro p hp; cases p <;> first | rfl | exact absurd hp (by decide)

/-! ## Reports -/

/-- A record event that is reported has a word index exactly where its kind has one (R163). -/
def RecordEvent.Sound (e : RecordEvent) : Prop := e.mask.isEmpty = false → e.word.isSome = e.kind.hasWord

/-- The predicate is kept by each report that a decision is made of. -/
structure ReportsKeep (P : State → Prop) : Prop where
  record : ∀ e s, e.Sound → P s → P (s.recordEvent e)
  dataLoss : ∀ s, P s → P (s.raise .dataLoss)
  insert : ∀ block m n s, n ≤ 2 → P s → P (s.insertRepair block m n).1
  charge : ∀ r k s, P s → P (s.charge r k)

theorem ReportsKeep.and {P Q : State → Prop} (hP : ReportsKeep P) (hQ : ReportsKeep Q) : ReportsKeep fun s => P s ∧ Q s where
  record := fun e s he h => ⟨hP.record e s he h.1, hQ.record e s he h.2⟩
  dataLoss := fun s h => ⟨hP.dataLoss s h.1, hQ.dataLoss s h.2⟩
  insert := fun b m n s hn h => ⟨hP.insert b m n s hn h.1, hQ.insert b m n s hn h.2⟩
  charge := fun r k s h => ⟨hP.charge r k s h.1, hQ.charge r k s h.2⟩

/-- A property of states is kept by a fold of steps that keep it. -/
theorem foldl_keeps {α : Type} {P : State → Prop} {f : State → α → State} (h : ∀ s a, P s → P (f s a)) (l : List α) {s : State}
    (hs : P s) : P (l.foldl f s) := by
  induction l generalizing s with
  | nil => exact hs
  | cons a l ih => exact ih (h s a hs)

theorem findIdx?_isSome_of_contains {l : List WordOutcome} (h : l.contains .divergent = true) :
    (l.findIdx? (· == .divergent)).isSome = true := by
  rw [List.findIdx?_isSome, List.any_eq_true]
  exact ⟨.divergent, List.contains_iff_mem.1 h, by simp⟩

/-- A replica is outvoted only where some word was decided CORRECTED. -/
theorem findings_outvotedWord_isSome (n : Nat) (outcomes : List WordOutcome) (who errors : ReplicaSet)
    (h : (findings n outcomes who errors).outvoted.isEmpty = false) :
    (findings n outcomes who errors).outvotedWord.isSome = true := by
  obtain ⟨r, hr⟩ := (Tri.isEmpty_eq_false_iff _).1 h
  simp only [findings, Tri.get_ofFn, List.any_eq_true] at hr
  obtain ⟨o, ho, hv⟩ := hr
  simp only [findings, Option.isSome_map, List.findIdx?_isSome, List.any_eq_true]
  refine ⟨o, ho, ?_⟩
  cases o <;> simp_all [WordOutcome.outvotes, WordOutcome.isCorrected]

theorem findings_divergentWord_isSome (n : Nat) (outcomes : List WordOutcome) (who errors : ReplicaSet)
    (h : (findings n outcomes who errors).divergentMask.isEmpty = false) :
    (findings n outcomes who errors).divergentWord.isSome = true := by
  simp only [findings, Option.isSome_map] at h ⊢
  refine findIdx?_isSome_of_contains ?_
  by_contra hn
  rw [if_neg hn] at h
  exact absurd h (by decide)

section Reports

variable {P : State → Prop} (h : ReportsKeep P)
include h

theorem ReportsKeep.charges (kinds : Tri (Option ChargeKind)) {s : State} (hs : P s) : P (s.charges kinds) := by
  unfold State.charges
  refine foldl_keeps (fun s r hs => ?_) _ hs
  split
  · exact h.charge _ _ _ hs
  · exact hs

theorem ReportsKeep.insertEach (block : Nat) (m : ReplicaSet) {s : State} (hs : P s) : P (s.insertEach block m).1 := by
  have one (acc : State × ReplicaSet) (r : Replica) (hacc : P acc.1) :
      P (if m.get r then
          ((acc.1.insertRepair block (Tri.only r) 0).1, acc.2.set r (acc.1.insertRepair block (Tri.only r) 0).2)
        else acc).1 := by
    split
    · exact h.insert _ _ _ _ (by decide) hacc
    · exact hacc
  exact one _ .c (one _ .b (one _ .a hs))

theorem ReportsKeep.reportRead (o : Origin) (block n : Nat) (outcomes : List WordOutcome) (who errors : ReplicaSet) {s : State}
    (hs : P s) : P (s.reportRead o block (findings n outcomes who errors)) := by
  unfold State.reportRead
  simp only
  exact h.record _ _ (findings_divergentWord_isSome n outcomes who errors) (h.record _ _ (fun _ => rfl)
    (h.record _ _ (findings_outvotedWord_isSome n outcomes who errors) (h.charges _ (h.insertEach _ _ hs))))

theorem ReportsKeep.reportMissed (sl : Slot) {s : State} (hs : P s) : P (s.reportMissed sl) := by
  unfold State.reportMissed
  exact h.record _ _ (fun _ => rfl) (h.charges _ (h.insertEach _ _ hs))

theorem ReportsKeep.reportUnwritten (sl : Slot) {s : State} (hs : P s) : P (s.reportUnwritten sl) := by
  unfold State.reportUnwritten
  exact h.dataLoss _ (h.record _ _ (fun _ => rfl) (h.charges _ hs))

theorem ReportsKeep.reinsert (m : ReplicaSet) {s : State} (hs : P s) : P (s.reinsert m).1 := by
  unfold State.reinsert
  split
  · exact h.insert _ _ _ _ (by omega) hs
  · exact hs

end Reports

/-- A target failure reported for each replica of a set. -/
theorem targetFailures_keep {P : State → Prop} (hf : ∀ r s, P s → P (s.targetFailure r)) (m : ReplicaSet) (l : List Replica)
    {s : State} (hs : P s) : P (l.foldl (fun s r => if m.get r then s.targetFailure r else s) s) := by
  refine foldl_keeps (fun s r hs => ?_) _ hs
  split
  · exact hf _ _ hs
  · exact hs

/-! ## The decision of a slot -/

/-- What a slot's decision does once the slot has its answer. -/
structure SlotReportsKeep (P : State → Prop) : Prop where
  reports : ReportsKeep P
  remove : ∀ block r s, P s → P (s.removeRepair block r)
  failure : ∀ r s, P s → P (s.targetFailure r)
  free : ∀ block s, P s → P (s.freeBlock block)

/-- What a slot's decision does beside its reports. -/
structure SlotDecisionsKeep (P : State → Prop) : Prop extends SlotReportsKeep P where
  table : ∀ s t, Keeps [.rt] s t → t.rt.locks = s.rt.locks → P s → P t

theorem State.answerSlot_locks (i : SlotId) (sl : Slot) (s : State) : (s.answerSlot i sl).rt.locks = s.rt.locks :=
  (State.presentNext_rest _).2.2.2

section SlotDecision

variable {P : State → Prop}

section Answered

variable (h : SlotReportsKeep P)
include h

/-- The decision of a read keeps what holds once its slot has its answer. -/
theorem SlotReportsKeep.decideRead_of_answered {i : SlotId} {sl : Slot} {s : State} (hs : ∀ x, P (s.answerSlot i x)) :
    P (s.decideRead i sl) := by
  unfold State.decideRead
  simp only
  have hreported := h.reports.reportRead .upstreamRead sl.block sl.firstWord
    (voteWords (s.contributing (voterAnswers sl.voters)) sl.length)
    (contributors (s.contributing (voterAnswers sl.voters)))
    (((answered (voterAnswers sl.voters) .error).union sl.firstError).inter s.voting)
    (h.free sl.block _ (hs
      { sl with
        status := some (readStatus sl.fastPhase (voteWords (s.contributing (voterAnswers sl.voters)) sl.length))
        failedMask := failedMask (voteWords (s.contributing (voterAnswers sl.voters)) sl.length)
        words := (voteWords (s.contributing (voterAnswers sl.voters)) sl.length).map WordOutcome.value }))
  split
  · exact h.reports.dataLoss _ hreported
  · exact hreported

theorem SlotReportsKeep.reportRemovals (sl : Slot) {s : State} (hs : P s) : P (s.reportRemovals sl) := by
  unfold State.reportRemovals
  simp only
  split
  · refine foldl_keeps (fun s r hs => ?_) _ hs
    split
    · exact h.remove _ _ _ hs
    · exact hs
  · exact hs

theorem SlotReportsKeep.reportTarget (sl : Slot) {s : State} (hs : P s) : P (s.reportTarget sl) := by
  unfold State.reportTarget
  split
  · exact h.failure _ _ hs
  · exact h.failure _ _ hs
  · exact hs
  · exact hs
  · exact hs

/-- The decision of a write keeps what holds once its slot has its answer. -/
theorem SlotReportsKeep.decideWrite_of_answered {i : SlotId} {sl : Slot} {s : State} (hs : ∀ x, P (s.answerSlot i x)) :
    P (s.decideWrite i sl) := by
  unfold State.decideWrite
  simp only
  refine h.reportTarget sl ?_
  have hremoved := h.reportRemovals sl
    (h.free sl.block _ (hs { sl with status := some (writeStatus (voterAnswers sl.voters)) }))
  split
  · exact h.reports.reportUnwritten sl hremoved
  · exact h.reports.reportMissed sl hremoved

/-- The decision of a slot keeps what holds once the slot has its answer, or has turned to its fallback. -/
theorem SlotReportsKeep.decideSlot_of_moved {i : SlotId} {s : State} (hnone : s.slot i = none → P s)
    (hanswered : ∀ sl, s.slot i = some sl → ∀ x, P (s.answerSlot i x))
    (hfall : ∀ sl first, s.slot i = some sl → P (s.setSlot i (some (sl.fallBack first)))) : P (s.decideSlot i) := by
  unfold State.decideSlot
  split
  · rename_i hsl; exact hnone hsl
  · rename_i sl hsl
    split
    · exact h.decideWrite_of_answered (hanswered sl hsl)
    · exact h.decideRead_of_answered (hanswered sl hsl)
    · split
      · exact h.decideRead_of_answered (hanswered sl hsl)
      · exact hfall sl _ hsl
    · exact hfall sl _ hsl

end Answered

variable (h : SlotDecisionsKeep P)
include h

theorem SlotDecisionsKeep.answer (i : SlotId) (sl : Slot) {s : State} (hs : P s) : P (s.answerSlot i sl) :=
  h.table _ _ (State.answerSlot_keeps i sl s) (State.answerSlot_locks i sl s) hs

theorem SlotDecisionsKeep.setSlot (i : SlotId) (x : Option Slot) {s : State} (hs : P s) : P (s.setSlot i x) :=
  h.table _ _ (State.setSlot_keeps i x s) rfl hs

theorem SlotDecisionsKeep.decideSlot (i : SlotId) {s : State} (hs : P s) : P (s.decideSlot i) :=
  h.toSlotReportsKeep.decideSlot_of_moved (fun _ => hs) (fun _ _ x => h.answer i x hs) fun _ _ _ => h.setSlot i _ hs

end SlotDecision

/-! ## The decisions of the engines -/

section EngineDecisions

variable {P Q : State → Prop}

/-- The walker's decision: its reports, and the end of its read. -/
theorem State.decideScrub_keeps_of (h : ReportsKeep P) (hend : ∀ s, P s → Q s.endScrubRead) (hPQ : ∀ s, P s → Q s) {s : State}
    (hs : P s) : Q s.decideScrub := by
  unfold State.decideScrub
  split
  · rename_i answers _
    simp only
    have hreported := h.reportRead .scrub s.scrub.pointer 0 (voteWords (s.contributing answers) 8)
      (contributors (s.contributing answers)) ((answered answers .error).inter s.voting) hs
    refine hend _ ?_
    split
    · exact hreported
    · exact h.dataLoss _ hreported
  · exact hPQ _ hs
  · exact hPQ _ hs

/-- The repair's READ decision: abandoned or divergent it ends, else the WRITE op is made ready (R118). -/
theorem State.decideRepairRead_keeps_of (h : ReportsKeep P) (hend : ∀ s, P s → Q s.endRepair)
    (hwrite : ∀ s values, P s → s.repairWriteSet.isEmpty = false →
      Q { s with repair := { s.repair with phase := .write, values := values, op := .ready s.repairWriteSet } })
    (answers : Tri (Option OpAnswer)) {s : State} (hs : P s) : Q (s.decideRepairRead answers) := by
  unfold State.decideRepairRead
  simp only
  split
  · exact hend _ (h.record _ _ (fun _ => rfl) hs)
  · split
    · rename_i hdivergent
      exact hend _ (h.dataLoss _ (h.record _ _ (fun _ => findIdx?_isSome_of_contains hdivergent) hs))
    · unfold State.beginRepairWrite
      split
      · exact hend _ hs
      · rename_i hset
        exact hwrite _ _ hs (by simpa using hset)

/-- The end of the repair's WRITE (R120, R121). -/
theorem State.endRepairWrite_keeps_of (hnote : ∀ s x b, P s → P { s with repair := { s.repair with writeSet := x, targetReported := b } })
    (hfail : ∀ r s, P s → P (s.targetFailure r))
    (hverify : ∀ s, P s → Q { s with repair := { s.repair with phase := .verify, op := readyOp s.repairVerifySet } })
    (answers : Tri (Option OpAnswer)) {s : State} (hs : P s) : Q (s.endRepairWrite answers) := by
  unfold State.endRepairWrite
  exact hverify _ (targetFailures_keep hfail _ _ (hnote _ _ _ hs))

/-- The verification outcome (R122). -/
theorem State.verifyOutcome_keeps_of (h : ReportsKeep P) (hfail : ∀ r s, P s → P (s.targetFailure r))
    (hend : ∀ s, P s → Q s.endRepair) (answers : Tri (Option OpAnswer)) {s : State} (hs : P s) : Q (s.verifyOutcome answers) := by
  unfold State.verifyOutcome
  simp only
  refine hend _ (h.record _ _ (fun _ => rfl) (targetFailures_keep hfail _ _ (h.charges _ ?_)))
  split
  · exact hs
  · exact h.reinsert _ hs

/-- The repair engine's decision. -/
theorem State.decideRepair_keeps_of (h : ReportsKeep P) (hfail : ∀ r s, P s → P (s.targetFailure r))
    (hend : ∀ s, P s → Q s.endRepair)
    (hnote : ∀ s x b, P s → P { s with repair := { s.repair with writeSet := x, targetReported := b } })
    (hwrite : ∀ s values, P s → s.repairWriteSet.isEmpty = false →
      Q { s with repair := { s.repair with phase := .write, values := values, op := .ready s.repairWriteSet } })
    (hverify : ∀ s, P s → Q { s with repair := { s.repair with phase := .verify, op := readyOp s.repairVerifySet } })
    (hPQ : ∀ s, P s → Q s) {s : State} (hs : P s) : Q s.decideRepair := by
  unfold State.decideRepair
  split
  · exact State.decideRepairRead_keeps_of h hend hwrite _ hs
  · exact State.endRepairWrite_keeps_of hnote hfail hverify _ hs
  · exact State.verifyOutcome_keeps_of h hfail hend _ hs
  all_goals exact hPQ _ hs

/-- The judgement of a fill write, up to its advance. -/
theorem State.judgeFill_keeps_of (h : ReportsKeep P) (hadvance : ∀ s, P s → Q s.copyAdvance) (answers : Tri (Option OpAnswer))
    {s : State} (hs : P s) : Q (s.judgeFill answers) := by
  have hinserted (c : Bool) (m : ReplicaSet) : P (if c then (s, false) else s.insertRepair s.copy.pointer m 0).1 := by
    cases c
    · exact h.insert _ _ _ _ (by decide) hs
    · exact hs
  have hrecorded (c : Bool) (m : ReplicaSet) (kinds : Tri (Option ChargeKind)) (e : RecordEvent) (he : e.Sound) :
      P (((if c then (s, false) else s.insertRepair s.copy.pointer m 0).1.charges kinds).recordEvent e) :=
    h.record _ _ he (h.charges _ (hinserted c m))
  unfold State.judgeFill
  simp only
  refine hadvance _ ?_
  split
  · exact hrecorded _ _ _ _ fun _ => rfl
  · exact h.dataLoss _ (hrecorded _ _ _ _ fun _ => rfl)

/-- The block decision of a rebuild (R152). -/
theorem State.decideCopyRead_keeps_of (h : ReportsKeep P) (hadvance : ∀ s, P s → Q s.copyAdvance)
    (hskip : ∀ s n, P s → P { s with copy := { s.copy with skipCount := n } })
    (hwrite : ∀ s values target, P s →
      Q { s with copy := { s.copy with step := .write, values := values, op := .ready (Tri.only target) } })
    (target : Replica) (answers : Tri (Option OpAnswer)) {s : State} (hs : P s) : Q (s.decideCopyRead target answers) := by
  unfold State.decideCopyRead
  simp only
  split
  · exact hadvance _ (h.dataLoss _ (h.record _ _ (fun _ => rfl) (hskip _ _ hs)))
  · exact hwrite _ _ _ hs

/-- The copy engine's decision. -/
theorem State.decideCopy_keeps_of (h : ReportsKeep P) (hadvance : ∀ s, P s → Q s.copyAdvance)
    (hend : ∀ s, P s → Q (s.copyEnd .abortedTarget))
    (hskip : ∀ s n, P s → P { s with copy := { s.copy with skipCount := n } })
    (hwrite : ∀ s values target, P s →
      Q { s with copy := { s.copy with step := .write, values := values, op := .ready (Tri.only target) } })
    (hPQ : ∀ s, P s → Q s) {s : State} (hs : P s) : Q s.decideCopy := by
  unfold State.decideCopy
  split
  · exact State.judgeFill_keeps_of h hadvance _ hs
  · exact State.decideCopyRead_keeps_of h hadvance hskip hwrite _ _ hs
  · unfold State.endCopyWrite
    split
    · exact hadvance _ hs
    · exact hend _ hs
  · exact hPQ _ hs

end EngineDecisions

/-! ## Settling -/

/-- Whether a decision is ready does not rest on the counter of the free choices. -/
theorem State.mayDecide_with_freeIndex (s : State) (n : Nat) (d : Decider) :
    State.mayDecide { s with freeIndex := n } d = s.mayDecide d := by
  cases d <;> rfl

/-- A property kept by every decision that is ready, and by a drawn free choice, is kept by settling. -/
theorem State.settle_keeps_of {P : State → Prop} (hd : ∀ d s, s.mayDecide d = true → P s → P (s.decideFor d))
    (hf : ∀ s n, P s → P { s with freeIndex := n }) {s : State} (h : P s) : P s.settle := by
  unfold State.settle
  generalize Config.decisionBound = n
  have hready {s : State} {d : Decider} (hmem : d ∈ s.ready) : s.mayDecide d = true := (List.mem_filter.1 hmem).2
  induction n generalizing s with
  | zero => exact h
  | succ n ih =>
    unfold State.settleFor
    split
    · exact h
    · rename_i d hr
      exact ih (hd d s (hready (by simp [hr])) h)
    · rename_i d d' rest hr
      refine ih (hd _ _ ?_ (hf _ _ h))
      rw [State.mayDecide_with_freeIndex]
      refine hready ?_
      have hlt : Config.freeChoice s.freeIndex % (rest.length + 2) < (d :: d' :: rest).length := Nat.mod_lt _ (Nat.succ_pos _)
      rw [hr, List.getD_eq_getElem _ _ hlt]
      exact List.getElem_mem _

end Sys2Proof.Machine
end

section
/-! One step, by the operations it is made of: a predicate that each of them keeps is kept by every step. The case split over the
commands is made here once, for every invariant. -/

namespace Sys2Proof.Machine

open Sys2Proof

/-! ## The state before its decisions -/

/-- The block an engine works at. -/
def State.workBlock (s : State) : Engine → Nat
  | .repair => s.repair.block
  | .copy => s.copy.pointer
  | .scrub => s.scrub.pointer

/-- The state of an engine's grant before its decisions (R102, R104). -/
def State.engineIssued (e : Engine) (op : Op) (named : ReplicaSet) (s : State) : State :=
  State.setEngineOp e (.out (s.grantAnswers named))
    { s.issue op named with ports := { (s.issue op named).ports with runCount := 0 } }

theorem State.grantEngine_eq (e : Engine) (op : Op) (named : ReplicaSet) (s : State) :
    s.grantEngine e op named = (s.engineIssued e op named).settle := rfl

/-- The state of a port that is declared dead, before its replica is retired (R100). -/
def State.portOff (r : Replica) (s : State) : State :=
  s.setPort r { s.port r with state := .off, list := [], abortLimit := none, abort := false }

/-- The state with the level of a bank's ABORT_DONE replaced (R99). -/
def State.setAbortDone (r : Replica) (level : Bool) (s : State) : State := s.setPort r { s.port r with abortDone := level }

/-- The state with the rest of a port's list left (R90). -/
def State.dropHead (r : Replica) (rest : List IssueEntry) (s : State) : State := s.setPort r { s.port r with list := rest }

/-- The state in which RESET_N is released (R186). -/
def State.releaseReset (s : State) : State := State.refreshLine { s with pins := { s.pins with resetAsserted := false } }

/-- The state in which a decay expiry turns to the accounts (R9). -/
def State.restartDecay (s : State) : State :=
  { s with health := { s.health with decayTimer := s.health.decayInterval } }

/-! ## The operations of a step -/

/-- The predicate is kept by each operation that a step is made of. -/
structure StepsKeep (P : State → Prop) : Prop where
  reports : ReportsKeep P
  counters : ∀ s t, Keeps [.pending, .freeIndex] s t → P s → P t
  table : ∀ s t, Keeps [.rt] s t → t.rt.locks = s.rt.locks → P s → P t
  reset : ∀ straps levels n q, P (State.afterReset straps levels n q)
  release : ∀ s, P s → P s.releaseReset
  advance : ∀ n s, P s → P (s.advance n)
  judge : ∀ r refused s, P s → P (s.judgeWrite r refused)
  result : ∀ k o s, P s → P (s.setResult k o)
  restart : ∀ s, P s → P s.restartIdle
  write : ∀ k v s, P s → P (s.writeWord k v).2
  settle : ∀ s, P s → P s.settle
  issueSlot : ∀ i sl named s, P s → P (s.countUpstream.issue (Slot.op sl i) named)
  issueEngine : ∀ e op named s, s.engineCandidate e = true → op.owner = .engine e → op.block = s.workBlock e → P s →
    P (s.engineIssued e op named)
  repairTarget : ∀ x s, P s → P { s with repair := { s.repair with target := x } }
  grantClaim : ∀ e b s, (s.lock e).claim = some b → s.claimWins e b = true → P s → P (s.grantClaim e b)
  skipScrub : ∀ b s, (s.lock .scrub).claim = some b → P s → P s.skipScrub
  take : ∀ head rest s, s.repair.phase = .idle → s.queue = head :: rest → P s →
    P ((s.headTaken head rest).claim .repair head.block)
  bankAccept : ∀ r s, (s.port r).state = .ready → P s → P (s.setPort r { s.port r with list := acceptFirst (s.port r).list })
  answer : ∀ r x head rest s, (s.port r).state = .ready → (s.port r).list = head :: rest → P s →
    P ((s.dropHead r rest).handOn r x head)
  emptyPort : ∀ r s, P s → P (s.emptyPort r)
  assertAbort : ∀ r s, P s → P (s.assertAbort r)
  abortLevel : ∀ r level s, P s → P (s.setAbortDone r level)
  endAbort : ∀ r s, (s.port r).state = .aborting → P s → P (s.endAbort r)
  targetUp : ∀ r s, P s → P (s.targetUp r)
  portOff : ∀ r s, (s.port r).state = .aborting → P s → P (s.portOff r)
  declareDead : ∀ r s, P s → P (s.declareDead r)
  decay : ∀ s, P s → P ((s.restartDecay.forEach State.decayScore).forEach State.decayClear)
  scrubExpiry : ∀ s, s.scrub.state = .waiting ∨ s.scrub.state = .paused → P s → P s.scrubExpiry
  sessionExpiry : ∀ s, P s → P (s.closeSession.raise .sessionExpired)

theorem State.tick_keeps_advance (s : State) : s.tick = s ∨ Keeps [.pending, .freeIndex] (s.advance 1) s.tick := by
  unfold State.tick
  split
  · exact .inl rfl
  · exact .inr fun p hp => by cases p <;> first | rfl | exact absurd hp (by decide)

theorem State.placeMemory_keeps (i : SlotId) (r : Request) (s : State) : Keeps [.rt] s (s.placeMemory i r) := by
  intro p hp; cases p <;> first | rfl | exact absurd hp (by decide)

theorem State.holdRefusal_keeps (tag : Tag) (s : State) : Keeps [.rt] s (s.holdRefusal tag) := by
  refine (State.presentNext_keeps _).after (by decide) (Keeps.with_rt (by decide) (Keeps.refl _ s))

theorem State.presentNext_locks (s : State) : s.presentNext.rt.locks = s.rt.locks := (State.presentNext_rest s).2.2.2

/-- Who the arbiter chooses among the engines is a candidate (R104). -/
theorem State.engineCandidate_of_arbiter {s : State} {e : Engine} (h : s.arbiter = some (.engine e)) :
    s.engineCandidate e = true := by
  have htop : s.topEngine = some e := by
    unfold State.arbiter at h
    split at h
    · cases h
    · split at h <;> simp_all
    · simp_all
    · cases h
  exact List.find?_some htop

section Steps

variable {P : State → Prop} (h : StepsKeep P)
include h

theorem StepsKeep.placeAnswered (i : SlotId) (sl : Slot) {s : State} (hs : P s) : P (s.placeAnswered i sl) :=
  h.table _ _ (State.placeAnswered_keeps i sl s) (State.presentNext_locks _) hs

theorem StepsKeep.takeWrite (i : SlotId) (r : Request) (k : Nat) (v : Word) {s : State} (hs : P s) : P (s.takeWrite i r k v) := by
  have hwritten := h.result k (s.writeWord k v).1 _ (h.write k v s hs)
  unfold State.takeWrite State.answerWrite
  refine h.restart _ ?_
  split
  · exact h.placeAnswered i _ hwritten
  · exact h.placeAnswered i _ hwritten

theorem StepsKeep.accessAperture (i : SlotId) (r : Request) {s : State} (hs : P s) : P (s.accessAperture i r) := by
  unfold State.accessAperture
  simp only
  split
  · split
    · exact h.restart _ (h.placeAnswered i _ hs)
    · split
      · exact h.settle _ (h.takeWrite i r _ _ hs)
      · exact h.takeWrite i r _ _ hs
  · exact h.restart _ (h.placeAnswered i _ hs)

theorem StepsKeep.accept (r : Request) {s : State} (hs : P s) : P (s.accept r) := by
  unfold State.accept
  split
  · split
    · exact hs
    · split
      · exact h.judge _ _ _ (h.table _ _ (State.holdRefusal_keeps r.tag s) (State.presentNext_locks _) hs)
      · exact h.judge _ _ _ (h.placeAnswered _ _ hs)
      · exact h.accessAperture _ r hs
      · exact h.judge _ _ _ (h.table _ _ (State.placeMemory_keeps _ r s) rfl hs)
  · exact hs

theorem StepsKeep.grantSlot (i : SlotId) (sl : Slot) {s : State} (hs : P s) : P (s.grantSlot i sl) := by
  unfold State.grantSlot
  exact h.settle _ (h.table _ _ (State.setSlot_keeps _ _ _) rfl (h.issueSlot i sl _ s hs))

theorem StepsKeep.timeOut (r : Replica) (head : IssueEntry) {s : State} (hs : P s) : P (s.timeOut r head) := by
  unfold State.timeOut
  exact h.settle _ (h.assertAbort r _ (h.reports.record _ _ (fun _ => rfl) (h.reports.charge r .timeout _ (h.emptyPort r s hs))))

theorem StepsKeep.expireHead (r : Replica) {s : State} (hs : P s) : P (s.expireHead r) := by
  unfold State.expireHead
  split
  · split
    · exact h.timeOut r _ hs
    · exact hs
  all_goals exact hs

theorem StepsKeep.responseTaken {s t : State} (ht : execResponseTaken s = .next t) (hs : P s) : P t := by
  unfold execResponseTaken at ht
  split at ht
  · cases ht; exact hs
  · have hfreed : Keeps [.rt] s { s with rt := { s.rt with channel := none } } := Keeps.with_rt (by decide) (Keeps.refl _ s)
    split at ht <;> cases ht
    · exact h.table _ _ (hfreed.trans ((State.setSlot_keeps _ _ _).trans (State.presentNext_keeps _)))
        (State.presentNext_locks _) hs
    · exact h.table _ _ ((State.presentNext_keeps _).after (by decide) (Keeps.with_rt (by decide) hfreed))
        (State.presentNext_locks _) hs

/-- An engine's grant, under the arbiter's choice. -/
theorem StepsKeep.engineGrant {e : Engine} {op : Op} {named : ReplicaSet} {s u : State} {c : Prop} [Decidable c]
    (ht : (if s.arbiter = some (.engine e) ∧ c then (.next (s.grantEngine e op named) : Result) else .next s) = .next u)
    (ho : op.owner = .engine e) (hb : op.block = s.workBlock e) (hs : P s) : P u := by
  split at ht
  · rename_i hgrant
    cases ht
    exact h.settle _ (h.issueEngine e op named s (State.engineCandidate_of_arbiter hgrant.1) ho hb hs)
  · cases ht; exact hs

theorem StepsKeep.repairWriteGrant {s t : State} (ht : execRepairWriteGrant s = .next t) (hs : P s) : P t := by
  unfold execRepairWriteGrant at ht
  split at ht
  · rename_i hgrant
    cases ht
    exact h.settle _ (h.issueEngine .repair _ _ _ (State.engineCandidate_of_arbiter hgrant.1 :) rfl rfl
      (h.repairTarget _ s hs))
  · cases ht; exact hs

theorem StepsKeep.blockClaimGrant {e : Engine} {s t : State} (ht : execBlockClaimGrant e s = .next t) (hs : P s) : P t := by
  unfold execBlockClaimGrant at ht
  split at ht
  · cases ht; exact hs
  · rename_i block hclaim
    split at ht
    · rename_i hwins
      cases ht; exact h.settle _ (h.grantClaim e block s hclaim hwins hs)
    · split at ht
      · rename_i hrefused
        cases ht; exact h.skipScrub block s (hrefused.1 ▸ hclaim) hs
      · cases ht; exact hs

theorem StepsKeep.abortDone {r : Replica} {s t : State} (ht : execAbortDone r s = .next t) (hs : P s) : P t := by
  unfold execAbortDone at ht
  simp only at ht
  split at ht
  · cases ht; exact hs
  · have hlevel := h.abortLevel r true s hs
    split at ht <;> cases ht
    · rename_i hstate
      exact h.targetUp r _ (h.endAbort r _ (by rw [State.port_setPort_self]; exact hstate) hlevel)
    · exact hlevel
    · exact hlevel

theorem StepsKeep.upstreamGrant {s t : State} (ht : execUpstreamGrant s = .next t) (hs : P s) : P t := by
  unfold execUpstreamGrant at ht
  split at ht
  · split at ht <;> cases ht
    · exact h.grantSlot _ _ hs
    · exact hs
  all_goals (cases ht; exact hs)

theorem StepsKeep.bankOpAccept {r : Replica} {s t : State} (ht : execBankOpAccept r s = .next t) (hs : P s) : P t := by
  unfold execBankOpAccept at ht
  split at ht <;> cases ht
  · rename_i hstate; exact h.bankAccept r s hstate hs
  · exact hs
  · exact hs

theorem StepsKeep.portAnswer {r : Replica} {x : BankAnswer} {s t : State} (ht : execPortAnswer r x s = .next t) (hs : P s) :
    P t := by
  unfold execPortAnswer at ht
  split at ht <;> cases ht
  · rename_i head rest hstate hlist
    exact h.expireHead r (h.settle _ (h.answer r _ head rest s hstate hlist hs))
  all_goals exact hs

theorem StepsKeep.portDead {r : Replica} {s t : State} (ht : execPortDead r s = .next t) (hs : P s) : P t := by
  unfold execPortDead at ht
  split at ht <;> cases ht
  · rename_i hstate _
    exact h.settle _ (h.declareDead r _ (h.portOff r s hstate hs))
  all_goals exact hs

theorem StepsKeep.decayExpiry {s t : State} (ht : execDecayExpiry s = .next t) (hs : P s) : P t := by
  unfold execDecayExpiry at ht
  split at ht <;> cases ht
  · exact hs
  · exact h.decay s hs

theorem StepsKeep.scrubIntervalExpiry {s t : State} (ht : execScrubIntervalExpiry s = .next t) (hs : P s) : P t := by
  unfold execScrubIntervalExpiry at ht
  split at ht <;> cases ht
  · rename_i hstate _; exact h.scrubExpiry s (.inl hstate) hs
  · rename_i hstate _; exact h.scrubExpiry s (.inr hstate) hs
  all_goals exact hs

theorem StepsKeep.repairTake {s t : State} (ht : execRepairTake s = .next t) (hs : P s) : P t := by
  unfold execRepairTake at ht
  split at ht <;> cases ht
  · rename_i hphase hqueue; exact h.take _ _ s hphase hqueue hs
  all_goals exact hs

theorem StepsKeep.sessionIdleExpiry {s t : State} (ht : execSessionIdleExpiry s = .next t) (hs : P s) : P t := by
  unfold execSessionIdleExpiry at ht
  split at ht <;> cases ht
  · exact h.sessionExpiry s hs
  all_goals exact hs

theorem StepsKeep.resetNRelease {s t : State} (ht : execResetNRelease s = .next t) (hs : P s) : P t := by
  unfold execResetNRelease at ht
  split at ht <;> cases ht
  · exact h.release s hs
  · exact hs

/-- Every command keeps the predicate: a row that is a write to one word is an acceptance, every other command has its lemma. -/
theorem StepsKeep.exec {c : Instr} {s t : State} (ht : exec c s = .next t) (hs : P s) : P t := by
  cases c with
  | hardwareReset straps => cases ht; exact h.reset _ _ _ _
  | requestAccept r =>
    simp only [Machine.exec, execRequestAccept] at ht
    split at ht <;> cases ht
    exact h.accept _ hs
  | apertureWrite tag word length enables data =>
    simp only [Machine.exec, execApertureWrite] at ht
    split at ht <;> cases ht
    exact h.accept _ hs
  | responseTaken => exact h.responseTaken ht hs
  | upstreamGrant => exact h.upstreamGrant ht hs
  | repairReadGrant => exact h.engineGrant ht rfl rfl hs
  | repairWriteGrant => exact h.repairWriteGrant ht hs
  | repairVerifyGrant => exact h.engineGrant ht rfl rfl hs
  | scrubReadGrant => exact h.engineGrant ht rfl rfl hs
  | fillWriteGrant => exact h.engineGrant ht rfl rfl hs
  | rebuildReadGrant => exact h.engineGrant ht rfl rfl hs
  | rebuildWriteGrant => exact h.engineGrant ht rfl rfl hs
  | bankOpAccept r => exact h.bankOpAccept ht hs
  | portAnswer r x => exact h.portAnswer ht hs
  | blockClaimGrant e => exact h.blockClaimGrant ht hs
  | portTimeout r => cases ht; exact h.expireHead r hs
  | abortDone r => exact h.abortDone ht hs
  | portDead r => exact h.portDead ht hs
  | decayExpiry => exact h.decayExpiry ht hs
  | scrubIntervalExpiry => exact h.scrubIntervalExpiry ht hs
  | repairTake => exact h.repairTake ht hs
  | resetNRelease => exact h.resetNRelease ht hs
  | abortDoneDeassert r => cases ht; exact h.abortLevel r false s hs
  | sessionIdleExpiry => exact h.sessionIdleExpiry ht hs
  | _ => cases ht; exact h.accept _ hs

/-- A predicate that every operation keeps is kept by every step. -/
theorem StepsKeep.step {s t : State} (hs : P s) (ht : step s = .next t) : P t := by
  unfold Machine.step at ht
  split at ht
  · cases ht
    rcases State.tick_keeps_advance s with htick | htick
    · rw [htick]; exact hs
    · exact h.counters _ _ htick (h.advance 1 s hs)
  · exact h.exec ht (h.counters _ _ ((State.withPending_keeps s _).mono (by decide)) hs)

end Steps

end Sys2Proof.Machine
end

section
/-! The frame of every aperture word's owner, and the steps of a predicate that does not look at the engines' side of the part. -/

namespace Sys2Proof.Machine

open Sys2Proof

/-! ## The owners of the aperture words -/

/-- The parts that the owner of a word can change. -/
def wordParts : Nat → List Part
  | 9 => [.records]
  | 12 | 13 => [.alerts]
  | 16 | 17 | 18 | 19 | 48 | 62 => [.session]
  | 20 | 46 => [.health, .alerts]
  | 21 => [.regions, .ports, .scrub]
  | 22 => [.health, .session, .alerts]
  | 40 | 43 => actionParts
  | 41 => .health :: .ports :: grantParts
  | 42 => .regions :: .queue :: .alerts :: grantParts
  | 44 | 45 => [.regions]
  | 47 => [.queue, .alerts]
  | 49 => .session :: decisionParts
  | _ => []

theorem State.closeSession_keeps (s : State) : Keeps [.session] s s.closeSession := Keeps.with_session (by decide) (Keeps.refl _ s)

theorem State.writeThresholds_keeps (v : Word) (s : State) : Keeps [.health, .alerts] s (s.writeThresholds v).2 := by
  unfold State.writeThresholds
  simp only
  split
  · exact (Keeps.with_health (by decide) (Keeps.refl _ s)).trans (State.forEach_keeps State.retest_keeps _)
  · exact Keeps.refl _ _

theorem State.writeTiming_keeps (v : Word) (s : State) : Keeps [.regions, .ports, .scrub] s (s.writeTiming v).2 := by
  unfold State.writeTiming
  simp only
  split
  · intro p hp; cases p <;> first | rfl | exact absurd hp (by decide)
  · exact Keeps.refl _ _

theorem State.setAlertMode_keeps (modes : Tri AlertMode) (r : Replica) (s : State) :
    Keeps [.health, .alerts] s (s.setAlertMode modes r) :=
  (State.updateCause_keeps _ _ s).step (State.setAccount_keeps _ _ _) (by decide) (by decide)

theorem State.writeHousekeeping_keeps (v : Word) (s : State) :
    Keeps [.health, .session, .alerts] s (s.writeHousekeeping v).2 := by
  unfold State.writeHousekeeping
  split
  · exact Keeps.refl _ _
  · refine ((State.forEach_keeps (State.setAlertMode_keeps _) _).mono (by decide)).after (List.Subset.refl _) ?_
    intro p hp; cases p <;> first | rfl | exact absurd hp (by decide)

theorem State.acknowledge_keeps (c : Cause) (s : State) : Keeps [.alerts] s (s.acknowledge c) := by
  unfold State.acknowledge
  split <;> exact State.updateCause_keeps _ _ _

theorem State.writeAlertAck_keeps (v : Word) (s : State) : Keeps [.alerts] s (s.writeAlertAck v).2 := by
  unfold State.writeAlertAck
  split
  · exact Keeps.refl _ _
  · refine Keeps.foldl (fun s c => ?_) _ _
    split
    · exact State.acknowledge_keeps _ _
    · exact Keeps.refl _ _

theorem State.writeAlertEnable_keeps (v : Word) (s : State) : Keeps [.alerts] s (s.writeAlertEnable v).2 := by
  unfold State.writeAlertEnable
  split
  · exact Keeps.refl _ _
  · intro p hp; cases p <;> first | rfl | exact absurd hp (by decide)

theorem State.commandRetire_keeps (v : Word) (s : State) : Keeps actionParts s (s.commandRetire v).2 := by
  unfold State.commandRetire
  split
  · exact Keeps.refl _ _
  · split
    · exact Keeps.refl _ _
    · exact State.retire_keeps _ _ _

theorem State.commandRebuild_keeps (v : Word) (s : State) :
    Keeps (.health :: .ports :: grantParts) s (s.commandRebuild v).2 := by
  unfold State.commandRebuild
  split
  · exact Keeps.refl _ _
  · split_ifs
    · exact Keeps.refl _ _
    · exact Keeps.refl _ _
    · exact Keeps.refl _ _
    · exact (State.rebuildPort_keeps _ _).after (by decide) ((State.startRebuild_keeps _ s).mono (by decide))

/-- The state of a fill that starts, before it purges the queue and claims its first block (R58, R143). -/
def State.startFill (n : RegionId) (s : State) : State :=
  { s with
    copy :=
      { s.copy with
        kind := .fill n, state := .running, step := .claim, pattern := s.session.stages[0],
        pointer := s.regions.descriptors[n].first, endBlock := s.regions.descriptors[n].last, skipCount := 0, op := .none }
    regions := { s.regions with fillMark := some n } }

/-- What a FILL that is DONE leaves. -/
def State.fillStarted (n : RegionId) (s : State) : State :=
  ((s.startFill n).purgeQueue s.regions.descriptors[n].first s.regions.descriptors[n].last).claim .copy
    s.regions.descriptors[n].first

theorem State.startFill_keeps (n : RegionId) (s : State) : Keeps [.regions, .copy] s (s.startFill n) := by
  intro p hp; cases p <;> first | rfl | exact absurd hp (by decide)

theorem State.fillStarted_keeps (n : RegionId) (s : State) :
    Keeps (.regions :: .queue :: .alerts :: grantParts) s (s.fillStarted n) :=
  (State.claim_keeps _ _ _).after (by decide) ((State.purgeQueue_keeps _ _ _).after (by decide)
    ((State.startFill_keeps n s).mono (by decide)))

/-- FILL, check by check (R143). -/
theorem State.commandFill_eq {v : Word} {n : RegionId} (hn : regionOperand v = some n) (s : State) :
    s.commandFill v =
      if s.copy.state ≠ .idle then (.busy, s)
      else if !s.regions.descriptors[n].enabled then (.refusedState, s)
      else if s.voting.isEmpty then (.refusedState, s)
      else (.done, s.fillStarted n) := by
  simp only [State.commandFill, hn]
  rfl

theorem State.commandFill_of_no_region {v : Word} (h : regionOperand v = none) (s : State) :
    s.commandFill v = (.refusedArgument, s) := by
  simp [State.commandFill, h]

theorem State.commandFill_keeps (v : Word) (s : State) :
    Keeps (.regions :: .queue :: .alerts :: grantParts) s (s.commandFill v).2 := by
  cases hn : regionOperand v with
  | none => rw [State.commandFill_of_no_region hn]; exact Keeps.refl _ _
  | some n =>
    rw [State.commandFill_eq hn]
    split_ifs
    · exact Keeps.refl _ _
    · exact Keeps.refl _ _
    · exact Keeps.refl _ _
    · exact State.fillStarted_keeps n s

theorem State.commandCopyAbort_keeps (s : State) : Keeps actionParts s s.commandCopyAbort.2 := by
  unfold State.commandCopyAbort
  split
  · exact Keeps.refl _ _
  · exact State.copyEnd_keeps _ _

theorem State.setDescriptor_keeps (n : RegionId) (d : Descriptor) (s : State) : Keeps [.regions] s (s.setDescriptor n d) :=
  (State.setDescriptor_changed n d s).keeps

theorem State.commandRegionSet_keeps (v : Word) (s : State) : Keeps [.regions] s (s.commandRegionSet v).2 := by
  unfold State.commandRegionSet
  split
  · exact Keeps.refl _ _
  · split
    · exact Keeps.refl _ _
    · split
      · simp only
        split_ifs
        · exact Keeps.refl _ _
        · exact Keeps.refl _ _
        · exact State.setDescriptor_keeps _ _ s
      · exact Keeps.refl _ _

theorem State.commandRegionClear_keeps (v : Word) (s : State) : Keeps [.regions] s (s.commandRegionClear v).2 := by
  unfold State.commandRegionClear
  split
  · exact Keeps.refl _ _
  · split
    · exact Keeps.refl _ _
    · exact State.setDescriptor_keeps _ _ s

theorem State.commandScoreClear_keeps (v : Word) (s : State) : Keeps [.health, .alerts] s (s.commandScoreClear v).2 := by
  unfold State.commandScoreClear
  split
  · exact Keeps.refl _ _
  · simp only
    split
    · exact Keeps.refl _ _
    · exact Keeps.refl _ _
    · exact (State.setAccount_keeps _ _ s).mono (by decide)
    · exact (State.setAccount_keeps _ _ s).step (State.suspectLeave_keeps _ _) (by decide) (by decide)

theorem State.commandMoveAperture_keeps (v : Word) (s : State) : Keeps [.session] s (s.commandMoveAperture v).2 := by
  unfold State.commandMoveAperture
  split
  · exact Keeps.refl _ _
  · exact Keeps.with_session (by decide) (Keeps.refl _ s)

/-! ## Soft reset, block by block (R202) -/

theorem State.softClearAlerts_keeps (s : State) : Keeps [.alerts] s s.softClearAlerts := by
  intro p hp; cases p <;> first | rfl | exact absurd hp (by decide)

theorem State.softResetAccounts_keeps (s : State) : Keeps [.health] s s.softResetAccounts :=
  Keeps.with_health (by decide) (Keeps.refl _ s)

theorem State.softResetRepair_keeps (s : State) :
    Keeps (.queue :: .alerts :: .ports :: grantParts) s s.softResetRepair :=
  Keeps.with_repair (t := (s.setQueue []).abandon .repair) (by decide)
    ((State.abandon_keeps _ _).after (by decide) ((State.setQueue_keeps [] s).mono (by decide)))

theorem State.softResetScrub_keeps (s : State) : Keeps (.ports :: grantParts) s s.softResetScrub :=
  Keeps.with_scrub (t := s.abandon .scrub) (by decide) (State.abandon_keeps _ s)

theorem State.retakeConditions_keeps (s : State) : Keeps [.alerts] s s.retakeConditions := by
  unfold State.retakeConditions
  exact (State.updateCause_keeps _ _ _).after (by decide) ((State.updateCause_keeps _ _ _).after (by decide)
    (Keeps.foldl (fun s r => State.updateCause_keeps _ _ s) _ s))

/-- The copy engine at soft reset: a copy in progress ends with ABORTED_RESET (R161). -/
def State.softResetCopy (s : State) : State := if s.copy.state = .idle then s else s.copyEnd .abortedReset

/-- The fault record list at soft reset (R173). -/
def State.softResetRecords (s : State) : State := { s with records := Records.reset }

theorem State.commandSoftReset_eq (s : State) :
    s.commandSoftReset =
      (.done, s.softClearAlerts.softResetAccounts.softResetCopy.softResetRepair.softResetScrub.softResetRecords.retakeConditions
        |>.closeSession) := rfl

theorem State.softResetCopy_keeps (s : State) : Keeps actionParts s s.softResetCopy := by
  unfold State.softResetCopy
  split
  · exact Keeps.refl _ _
  · exact State.copyEnd_keeps _ _

theorem State.softResetRecords_keeps (s : State) : Keeps [.records] s s.softResetRecords :=
  Keeps.with_records (by decide) (Keeps.refl _ s)

theorem State.commandSoftReset_keeps (s : State) : Keeps (.session :: decisionParts) s s.commandSoftReset.2 := by
  rw [State.commandSoftReset_eq]
  exact (State.closeSession_keeps _).after (by decide) ((State.retakeConditions_keeps _).after (by decide)
    ((State.softResetRecords_keeps _).after (by decide) ((State.softResetScrub_keeps _).after (by decide)
      ((State.softResetRepair_keeps _).after (by decide) ((State.softResetCopy_keeps _).after (by decide)
        ((State.softResetAccounts_keeps _).after (by decide) ((State.softClearAlerts_keeps s).mono (by decide))))))))

theorem State.writeStage_keeps (i : Fin 4) (v : Word) (s : State) : Keeps [.session] s (s.writeStage i v).2 :=
  Keeps.with_session (by decide) (Keeps.refl _ s)

theorem State.writeWord_keeps (k : Nat) (v : Word) (s : State) : Keeps (wordParts k) s (s.writeWord k v).2 := by
  unfold State.writeWord
  split
  · exact State.recordRelease_keeps v s
  · exact State.writeAlertAck_keeps v s
  · exact State.writeAlertEnable_keeps v s
  · exact State.writeStage_keeps 0 v s
  · exact State.writeStage_keeps 1 v s
  · exact State.writeStage_keeps 2 v s
  · exact State.writeStage_keeps 3 v s
  · exact State.writeThresholds_keeps v s
  · exact State.writeTiming_keeps v s
  · exact State.writeHousekeeping_keeps v s
  · exact State.commandRetire_keeps v s
  · exact State.commandRebuild_keeps v s
  · exact State.commandFill_keeps v s
  · exact State.commandCopyAbort_keeps s
  · exact State.commandRegionSet_keeps v s
  · exact State.commandRegionClear_keeps v s
  · exact State.commandScoreClear_keeps v s
  · exact State.setQueue_keeps [] s
  · exact State.commandMoveAperture_keeps v s
  · exact State.commandSoftReset_keeps s
  · exact State.closeSession_keeps s
  · exact Keeps.refl _ s

/-- The words whose owners can act. -/
def ownedWords : List Nat := [9, 12, 13, 16, 17, 18, 19, 20, 21, 22, 40, 41, 42, 43, 44, 45, 46, 47, 48, 49, 62]

theorem wordParts_of_not_owned {k : Nat} (h : k ∉ ownedWords) : wordParts k = [] := by
  unfold wordParts
  split <;> first | rfl | exact absurd (by decide) h

/-- For a predicate that does not look at some parts, only the owners of other parts matter. -/
theorem State.writeWord_of_owners {P : State → Prop} {L : List Part} (hi : Ignores L P) (K : List Nat)
    (hK : (ownedWords.filter fun k => !decide (wordParts k ⊆ L)) = K) {v : Word} {s : State}
    (h : ∀ k ∈ K, P s → P (s.writeWord k v).2) (k : Nat) (hs : P s) : P (s.writeWord k v).2 := by
  by_cases hk : wordParts k ⊆ L
  · exact hi.of_keeps (State.writeWord_keeps k v s) hk hs
  · refine h k (hK ▸ List.mem_filter.2 ⟨?_, by simpa using hk⟩) hs
    by_contra hn
    exact hk (by simp [wordParts_of_not_owned hn])

/-! ## Predicates that do not look at the engines' side -/

/-- The parts of the engines' side: the request table, the ports, the engines, and the model's own fields. -/
abbrev engineSide : List Part := [.rt, .ports, .repair, .scrub, .copy, .freeIndex, .pending]

theorem State.judgeWrite_keeps (r : Request) (refused : Bool) (s : State) : Keeps [.session] s (s.judgeWrite r refused) := by
  unfold State.judgeWrite
  split
  · exact Keeps.refl _ _
  · exact Keeps.with_session (by decide) (Keeps.refl _ s)

theorem State.setResult_keeps (k : Nat) (o : ResultOutcome) (s : State) : Keeps [.session] s (s.setResult k o) :=
  Keeps.with_session (by decide) (Keeps.refl _ s)

theorem State.countUpstream_keeps (s : State) : Keeps [.ports] s s.countUpstream := Keeps.with_ports (by decide) (Keeps.refl _ s)

theorem State.engineIssued_keeps (e : Engine) (op : Op) (named : ReplicaSet) (s : State) :
    Keeps [.ports, .repair, .scrub, .copy] s (s.engineIssued e op named) :=
  (State.setEngineOp_keeps e _ _).after (by decide)
    (Keeps.with_ports (t := s.issue op named) (by decide) ((State.issue_keeps op named s).mono (by decide)))

theorem State.targetUp_keeps (r : Replica) (s : State) : Keeps grantParts s (s.targetUp r) := by
  unfold State.targetUp
  split
  · exact (State.claim_keeps _ _ _).after (by decide) (Keeps.with_copy (by decide) (Keeps.refl _ s))
  · exact Keeps.refl _ _

theorem State.scrubExpiry_keeps (s : State) : Keeps grantParts s s.scrubExpiry := by
  have hscrub (w : Scrub) : Keeps grantParts s { s with scrub := w } := Keeps.with_scrub (by decide) (Keeps.refl _ s)
  unfold State.scrubExpiry
  split_ifs
  · exact hscrub _
  · exact hscrub _
  · split
    · exact hscrub _
    · unfold State.scrubClaim
      simp only
      split
      · exact (State.skipScrub_keeps _).after (by decide) (hscrub _)
      · exact (State.claim_keeps _ _ _).after (by decide) (hscrub _)

theorem State.decay_keeps (s : State) :
    Keeps [.health, .alerts] s ((s.restartDecay.forEach State.decayScore).forEach State.decayClear) :=
  ((Keeps.with_health (by decide) (Keeps.refl _ s)).trans
      ((State.forEach_keeps State.decayScore_keeps s.restartDecay).mono (by decide))).trans
    (State.forEach_keeps State.decayClear_keeps _)

/-- The fill mark is cleared (R157 step 3). -/
def State.unmark (s : State) : State := { s with regions := { s.regions with fillMark := none } }

theorem State.unmark_keeps (s : State) : Keeps [.regions] s s.unmark := Keeps.with_regions (by decide) (Keeps.refl _ s)

/-- The operations that matter to a predicate that does not look at the engines' side. -/
structure PlainKeep (P : State → Prop) : Prop where
  ignores : Ignores engineSide P
  record : ∀ e s, e.Sound → P s → P (s.recordEvent e)
  event : ∀ c s, c ≠ .queueFull → c ≠ .degraded → P s → P (s.raise c)
  insert : ∀ block m n s, n ≤ 2 → P s → P (s.insertRepair block m n).1
  remove : ∀ block r s, P s → P (s.removeRepair block r)
  applyCharge : ∀ r k s, (s.account r).votes = true → P s → P (s.applyCharge r k)
  retireCore : ∀ r reason s, P s → P (s.retireCore r reason)
  joinRebuilt : ∀ r n s, P s → P (s.joinRebuilt r n)
  unmark : ∀ s, P s → P s.unmark
  tail : ∀ head rest s, s.queue = head :: rest → P s → P (s.setQueue rest)
  reset : ∀ straps levels n q, P (State.afterReset straps levels n q)
  release : ∀ s, P s → P s.releaseReset
  advance : ∀ n s, P s → P (s.advance n)
  judge : ∀ r refused s, P s → P (s.judgeWrite r refused)
  result : ∀ k o s, P s → P (s.setResult k o)
  restart : ∀ s, P s → P s.restartIdle
  decay : ∀ s, P s → P ((s.restartDecay.forEach State.decayScore).forEach State.decayClear)
  close : ∀ s, P s → P s.closeSession

/-! ## The end of a copy -/

/-- The copy context at its end (R157). -/
def Copy.ended (o : CopyOutcome) (c : Copy) : Copy := { c with state := .idle, step := .none, outcome := o, op := .none }

/-- The state in which the end of a copy is handed over: the context is IDLE, the engine's work abandoned (R157 steps 1 and 2). -/
def State.copyStopped (o : CopyOutcome) (s : State) : State :=
  ({ s with copy := s.copy.ended o } : State).copyForget.abandon .copy

/-- The end of a copy but for the run count (R157). -/
def State.copyClosed (o : CopyOutcome) (s : State) : State :=
  ((s.copyStopped o).copyHandOver (s.copyStopped o).copy.kind o).raise .copyDone

theorem State.copyEnd_eq (o : CopyOutcome) (s : State) :
    s.copyEnd o = if o = .abortedReset then s.copyClosed o else (s.copyClosed o).settleRunCount := rfl

theorem State.copyStopped_keeps (o : CopyOutcome) (s : State) : Keeps (.ports :: grantParts) s (s.copyStopped o) :=
  (State.abandon_keeps _ _).after (by decide) ((State.copyForget_keeps _).after (by decide)
    (Keeps.with_copy (by decide) (Keeps.refl _ s)))

section Plain

variable {P : State → Prop} (h : PlainKeep P)
include h

theorem PlainKeep.frame {L : List Part} {s t : State} (hk : Keeps L s t) (hL : L ⊆ engineSide) (hs : P s) : P t :=
  h.ignores.of_keeps hk hL hs

theorem PlainKeep.copyEnd (o : CopyOutcome) {s : State} (hs : P s) : P (s.copyEnd o) := by
  have hstopped := h.frame (State.copyStopped_keeps o s) (by decide) hs
  have hclosed : P (s.copyClosed o) := by
    refine h.event _ _ (by decide) (by decide) ?_
    unfold State.copyHandOver
    split
    · exact hstopped
    · exact h.unmark _ hstopped
    · split
      · exact h.joinRebuilt _ _ _ hstopped
      · exact h.retireCore _ _ _ hstopped
  rw [State.copyEnd_eq]
  split
  · exact hclosed
  · exact h.frame (State.settleRunCount_keeps _) (by decide) hclosed

theorem PlainKeep.retire (r : Replica) (reason : RetireReason) {s : State} (hs : P s) : P (s.retire r reason) := by
  unfold State.retire
  simp only
  split
  · exact h.copyEnd _ (h.retireCore _ _ _ hs)
  · exact h.retireCore _ _ _ hs

theorem PlainKeep.targetFailure (r : Replica) {s : State} (hs : P s) : P (s.targetFailure r) := by
  unfold State.targetFailure
  split
  · exact h.copyEnd _ hs
  · exact hs

theorem PlainKeep.charge (r : Replica) (k : ChargeKind) {s : State} (hs : P s) : P (s.charge r k) := by
  unfold State.charge
  split
  · rename_i hvotes
    unfold State.autoRetire
    simp only
    split
    · exact h.retire _ _ (h.applyCharge r k s hvotes hs)
    · exact h.applyCharge r k s hvotes hs
  · exact hs

theorem PlainKeep.reports : ReportsKeep P where
  record := h.record
  dataLoss := fun s => h.event .dataLoss s (by decide) (by decide)
  insert := h.insert
  charge := fun r k _ => h.charge r k

theorem PlainKeep.slotDecisions : SlotDecisionsKeep P where
  reports := h.reports
  remove := h.remove
  failure := fun r _ => h.targetFailure r
  table := fun _ _ hk _ => h.frame hk (by decide)
  free := fun b s => h.frame (State.freeBlock_keeps b s) (by decide)

theorem PlainKeep.copyAdvance {s : State} (hs : P s) : P s.copyAdvance := by
  have hcopy (c : Copy) : P { s with copy := c } :=
    h.frame (Keeps.with_copy (L := [.copy]) (by decide) (Keeps.refl _ s)) (by decide) hs
  unfold State.copyAdvance
  simp only
  split
  · exact h.copyEnd _ (hcopy _)
  · exact h.frame (State.claim_keeps _ _ _) (by decide) (h.frame (State.releaseLock_keeps _ _) (by decide) (hcopy _))

theorem PlainKeep.decideFor (d : Decider) {s : State} (hs : P s) : P (s.decideFor d) := by
  have hrepair (x : Repair) (s : State) : P s → P { s with repair := x } :=
    h.frame (Keeps.with_repair (L := [.repair]) (by decide) (Keeps.refl _ s)) (by decide)
  have hcopy (x : Copy) (s : State) : P s → P { s with copy := x } :=
    h.frame (Keeps.with_copy (L := [.copy]) (by decide) (Keeps.refl _ s)) (by decide)
  cases d with
  | slot i => exact h.slotDecisions.decideSlot i hs
  | repair =>
    exact State.decideRepair_keeps_of h.reports (fun r _ => h.targetFailure r)
      (fun s => h.frame (State.endRepair_keeps s) (by decide)) (fun s _ _ => hrepair _ s) (fun s _ hs _ => hrepair _ s hs)
      (fun s => hrepair _ s) (fun _ => id) hs
  | copy =>
    exact State.decideCopy_keeps_of h.reports (fun _ => h.copyAdvance) (fun _ => h.copyEnd _) (fun s _ => hcopy _ s)
      (fun s _ _ => hcopy _ s) (fun _ => id) hs
  | scrub => exact State.decideScrub_keeps_of h.reports (fun s => h.frame (State.endScrubRead_keeps s) (by decide)) (fun _ => id) hs

theorem PlainKeep.settle {s : State} (hs : P s) : P s.settle :=
  State.settle_keeps_of (fun d _ _ => h.decideFor d) (fun s n => h.frame (State.with_freeIndex_keeps s n) (by decide)) hs

theorem PlainKeep.headTaken (head : QueueEntry) (rest : List QueueEntry) {s : State} (hq : s.queue = head :: rest) (hs : P s) :
    P (s.headTaken head rest) :=
  h.frame (Keeps.with_repair (L := [.repair]) (by decide) (Keeps.refl _ (s.setQueue rest))) (by decide)
    (h.tail head rest s hq hs)

theorem PlainKeep.declareDead (r : Replica) {s : State} (hs : P s) : P (s.declareDead r) := by
  unfold State.declareDead
  split
  · exact h.retire _ _ hs
  · exact h.retire _ _ hs
  · exact h.targetFailure _ hs
  · exact hs

theorem PlainKeep.commandRetire (v : Word) {s : State} (hs : P s) : P (s.commandRetire v).2 := by
  unfold State.commandRetire
  split
  · exact hs
  · split
    · exact hs
    · exact h.retire _ _ hs

theorem PlainKeep.commandCopyAbort {s : State} (hs : P s) : P s.commandCopyAbort.2 := by
  unfold State.commandCopyAbort
  split
  · exact hs
  · exact h.copyEnd .abortedCommand hs

/-- Such a predicate is kept by every operation of a step, where the owners of the words keep it. -/
theorem PlainKeep.steps (hwrite : ∀ k v s, P s → P (s.writeWord k v).2) : StepsKeep P where
  reports := h.reports
  counters := fun _ _ hk => h.frame hk (by decide)
  table := fun _ _ hk _ => h.frame hk (by decide)
  reset := h.reset
  release := h.release
  advance := h.advance
  judge := h.judge
  result := h.result
  restart := h.restart
  write := hwrite
  settle := fun _ => h.settle
  issueSlot := fun i sl named s => h.frame ((State.countUpstream_keeps s).trans (State.issue_keeps _ named _)) (by decide)
  issueEngine := fun e op named s _ _ _ => h.frame (State.engineIssued_keeps e op named s) (by decide)
  repairTarget := fun _ s => h.frame (Keeps.with_repair (L := [.repair]) (by decide) (Keeps.refl _ s)) (by decide)
  grantClaim := fun e b s _ _ => h.frame (State.grantClaim_keeps e b s) (by decide)
  skipScrub := fun _ s _ => h.frame (State.skipScrub_keeps s) (by decide)
  take := fun head rest _ _ hq hs => h.frame (State.claim_keeps _ _ _) (by decide) (h.headTaken head rest hq hs)
  bankAccept := fun r s _ => h.frame (State.setPort_keeps r _ s) (by decide)
  answer := fun r x head rest s _ _ hs =>
    h.frame (State.handOn_keeps r _ head _) (by decide) (h.frame (State.setPort_keeps r _ s) (by decide) hs)
  emptyPort := fun r s => h.frame (State.emptyPort_keeps r s) (by decide)
  assertAbort := fun r s => h.frame (State.assertAbort_keeps r s) (by decide)
  abortLevel := fun r _ s => h.frame (State.setPort_keeps r _ s) (by decide)
  endAbort := fun r s _ => h.frame (State.setPort_keeps r _ s) (by decide)
  targetUp := fun r s => h.frame (State.targetUp_keeps r s) (by decide)
  portOff := fun r s _ => h.frame (State.setPort_keeps r _ s) (by decide)
  declareDead := fun r _ => h.declareDead r
  decay := h.decay
  scrubExpiry := fun s _ => h.frame (State.scrubExpiry_keeps s) (by decide)
  sessionExpiry := fun _ hs => h.event _ _ (by decide) (by decide) (h.close _ hs)

end Plain

/-- SOFT_RESET for a predicate that does not look at the engines' side: the blocks it may look at, in their order. -/
theorem State.commandSoftReset_keeps_of {P : State → Prop} (hi : Ignores engineSide P)
    (hclear : ∀ s, P s → P s.softClearAlerts.softResetAccounts) (hcopy : ∀ s, P s → P (s.copyEnd .abortedReset))
    (hqueue : ∀ s, P s → P (s.setQueue [])) (hrecords : ∀ s, P s → P s.softResetRecords)
    (hretake : ∀ s, P s → P s.retakeConditions) (hclose : ∀ s, P s → P s.closeSession) {s : State} (hs : P s) :
    P s.commandSoftReset.2 := by
  have hstopped : P s.softClearAlerts.softResetAccounts.softResetCopy := by
    unfold State.softResetCopy
    split
    · exact hclear s hs
    · exact hcopy _ (hclear s hs)
  have hrepair : P s.softClearAlerts.softResetAccounts.softResetCopy.softResetRepair :=
    hi.of_keeps (Keeps.with_repair (L := .ports :: grantParts)
      (t := (s.softClearAlerts.softResetAccounts.softResetCopy.setQueue []).abandon .repair) (by decide) (State.abandon_keeps _ _))
      (by decide) (hqueue _ hstopped)
  rw [State.commandSoftReset_eq]
  exact hclose _ (hretake _ (hrecords _ (hi.of_keeps (State.softResetScrub_keeps _) (by decide) hrepair)))

end Sys2Proof.Machine
end

section
/-! The fault record list through every step (R162, R163, R165 to R167). -/

namespace Sys2Proof.Machine

open Sys2Proof

theorem Ignores.mono {L M : List Part} {P : State → Prop} (h : Ignores L P) (hM : M ⊆ L) : Ignores M P :=
  fun s t hk => h s t (hk.mono hM)

/-- Every part but the fault record list. -/
abbrev outsideRecords : List Part :=
  [.pins, .health, .rt, .regions, .ports, .queue, .repair, .scrub, .copy, .alerts, .session, .freeIndex, .pending]

theorem recordsWf_ignores : Ignores outsideRecords fun s => s.records.Wf := fun s t hk hs =>
  (congrArg Records.Wf (hk.records (by decide))).mpr hs

/-! ## Merging, creating, releasing -/

section Records

variable {l : Records} {e : RecordEvent}

theorem lowerWord_isSome (x y : Option Nat) : (lowerWord x y).isSome = (x.isSome || y.isSome) := by
  cases x <;> cases y <;> rfl

theorem Tri.isEmpty_union_of_left {m n : ReplicaSet} (h : m.isEmpty = false) : (m.union n).isEmpty = false := by
  obtain ⟨r, hr⟩ := (Tri.isEmpty_eq_false_iff m).1 h
  exact (Tri.isEmpty_eq_false_iff _).2 ⟨r, by simp [hr]⟩

/-- What Records.Wf asks of each record. -/
def FaultRecord.Wf (x : FaultRecord) : Prop :=
  x.mask.isEmpty = false ∧ 1 ≤ x.repeats ∧ x.repeats ≤ 255 ∧ x.word.isSome = x.kind.hasWord

theorem FaultRecord.merge_wf {x : FaultRecord} (hx : x.Wf) (hkind : x.kind = e.kind) (hmask : e.mask.isEmpty = false)
    (he : e.Sound) : (x.merge e).Wf := by
  obtain ⟨hxmask, hlow, hhigh, hword⟩ := hx
  refine ⟨Tri.isEmpty_union_of_left hxmask, ?_, ?_, ?_⟩
  · simp only [FaultRecord.merge, saturate255]; omega
  · simp only [FaultRecord.merge, saturate255]; omega
  · simp only [FaultRecord.merge, lowerWord_isSome, hword, he hmask, hkind, Bool.or_self]

theorem RecordEvent.create_wf (n : Nat) (hmask : e.mask.isEmpty = false) (he : e.Sound) : (e.create n).Wf :=
  ⟨hmask, Nat.le_refl 1, (by decide : 1 ≤ 255), he hmask⟩

/-- A record keeps its block, kind and sequence when an event merges into it. -/
theorem Records.merge_wf (hl : l.Wf) (hmask : e.mask.isEmpty = false) (he : e.Sound) :
    Records.Wf { l with list := l.list.map fun x => if x.sameAs e then x.merge e else x } where
  count := by simpa using hl.count
  lost := hl.lost
  next := hl.next
  distinct := by
    have hsame (x : FaultRecord) : (if x.sameAs e then x.merge e else x).block = x.block
        ∧ (if x.sameAs e then x.merge e else x).kind = x.kind := by split <;> exact ⟨rfl, rfl⟩
    refine List.pairwise_map.2 (hl.distinct.imp fun {x y} hxy => ?_)
    rw [(hsame x).1, (hsame x).2, (hsame y).1, (hsame y).2]
    exact hxy
  consecutive := fun n hn => by
    have hsequence (x : FaultRecord) : (if x.sameAs e then x.merge e else x).sequence = x.sequence := by split <;> rfl
    simp only [List.getElem_map, List.length_map, hsequence]
    exact hl.consecutive n _
  each := fun y hy => by
    obtain ⟨x, hx, rfl⟩ := List.mem_map.1 hy
    split
    · rename_i hsame
      exact FaultRecord.merge_wf (hl.each x hx) ((FaultRecord.sameAs_iff x e).1 hsame).2 hmask he
    · exact hl.each x hx

/-- A new record stands last, with the next sequence (R165). -/
theorem Records.create_wf (hl : l.Wf) (hmask : e.mask.isEmpty = false) (he : e.Sound) (hroom : l.list.length < 16)
    (habsent : ∀ x ∈ l.list, ¬(x.block = e.block ∧ x.kind = e.kind)) :
    Records.Wf { l with list := l.list ++ [e.create l.nextSeq], nextSeq := wrap16 l.nextSeq } where
  count := by simpa using hroom
  lost := hl.lost
  next := Nat.mod_lt _ (by decide)
  distinct := by
    refine List.pairwise_append.2 ⟨hl.distinct, List.pairwise_singleton _ _, fun x hx y hy => ?_⟩
    obtain rfl := List.mem_singleton.1 hy
    exact habsent x hx
  consecutive := fun n hn => by
    have hnext := hl.next
    simp only [List.length_append, List.length_singleton] at hn
    simp only [List.length_append, List.length_singleton, List.getElem_append, wrap16]
    split
    · rename_i hlt
      have hseq := hl.consecutive n hlt
      omega
    · have hlast : n = l.list.length := by omega
      simp only [List.getElem_singleton, RecordEvent.create]
      omega
  each := fun x hx => by
    rcases List.mem_append.1 hx with hx | hx
    · exact hl.each x hx
    · obtain rfl := List.mem_singleton.1 hx
      exact RecordEvent.create_wf _ hmask he

theorem Records.drop_wf (hl : l.Wf) : l.drop.Wf :=
  { hl with lost := by simp only [Records.drop, saturate255]; omega }

theorem Records.release_wf {head : FaultRecord} {rest : List FaultRecord} (hl : l.Wf) (hlist : l.list = head :: rest) :
    Records.Wf { l with list := rest } where
  count := by have h := hl.count; rw [hlist, List.length_cons] at h; exact Nat.le_of_succ_le h
  lost := hl.lost
  next := hl.next
  distinct := by have h := hl.distinct; rw [hlist] at h; exact h.of_cons
  consecutive := fun n hn => by
    have hcount := hl.count
    have hseq := hl.consecutive (n + 1) (by rw [hlist]; simpa using hn)
    simp only [hlist, List.length_cons, List.getElem_cons_succ] at hcount hseq
    change _ = (l.nextSeq + 65536 - rest.length + n) % 65536
    rw [hseq]
    congr 1
    omega
  each := fun x hx => hl.each x (hlist ▸ List.mem_cons_of_mem _ hx)

theorem Records.reset_wf : Records.reset.Wf where
  count := by decide
  lost := by decide
  next := by decide
  distinct := List.Pairwise.nil
  consecutive := fun _ hn => absurd hn (Nat.not_lt_zero _)
  each := fun _ hx => absurd hx List.not_mem_nil

end Records

/-- A record event keeps the list in form (R164 to R167). -/
theorem State.recordEvent_recordsWf (e : RecordEvent) (s : State) (he : e.Sound) (hs : s.records.Wf) :
    (s.recordEvent e).records.Wf := by
  cases hmask : e.mask.isEmpty with
  | true => simpa [State.recordEvent, hmask] using hs
  | false =>
    by_cases hany : (s.records.list.any fun x => x.sameAs e) = true
    · rw [State.recordEvent_of_taken hmask (if_pos hany)]
      exact Records.merge_wf hs hmask he
    · have habsent : ∀ x ∈ s.records.list, ¬(x.block = e.block ∧ x.kind = e.kind) := fun x hx hsame =>
        hany (List.any_eq_true.2 ⟨x, hx, (FaultRecord.sameAs_iff x e).2 hsame⟩)
      by_cases hroom : s.records.list.length < 16
      · rw [State.recordEvent_of_taken hmask ((Records.take_of_absent habsent).trans (if_pos hroom))]
        exact Records.create_wf hs hmask he hroom habsent
      · rw [State.recordEvent_of_dropped hmask ((Records.take_of_absent habsent).trans (if_neg hroom))]
        exact Records.drop_wf hs

theorem recordsWf_plain : PlainKeep fun s => s.records.Wf where
  ignores := recordsWf_ignores.mono (by decide)
  record := State.recordEvent_recordsWf
  event := fun c s _ _ => recordsWf_ignores.of_keeps (State.raise_keeps c s) (by decide)
  insert := fun b m n s _ => recordsWf_ignores.of_keeps (State.insertRepair_keeps b m n s) (by decide)
  remove := fun b r s => recordsWf_ignores.of_keeps (State.removeRepair_keeps b r s) (by decide)
  applyCharge := fun r k s _ => recordsWf_ignores.of_keeps (State.applyCharge_keeps r k s) (by decide)
  retireCore := fun r reason s => recordsWf_ignores.of_keeps (State.retireCore_keeps r reason s) (by decide)
  joinRebuilt := fun r n s => recordsWf_ignores.of_keeps (State.joinRebuilt_keeps r n s) (by decide)
  unmark := fun s => recordsWf_ignores.of_keeps (State.unmark_keeps s) (by decide)
  tail := fun _ rest s _ => recordsWf_ignores.of_keeps (State.setQueue_keeps rest s) (by decide)
  reset := fun _ _ _ _ => Records.reset_wf
  release := fun _ hs => hs
  advance := fun n s => recordsWf_ignores.of_keeps (State.advance_keeps n s) (by decide)
  judge := fun r b s => recordsWf_ignores.of_keeps (State.judgeWrite_keeps r b s) (by decide)
  result := fun k o s => recordsWf_ignores.of_keeps (State.setResult_keeps k o s) (by decide)
  restart := fun s => recordsWf_ignores.of_keeps (State.restartIdle_keeps s) (by decide)
  decay := fun s => recordsWf_ignores.of_keeps (State.decay_keeps s) (by decide)
  close := fun s => recordsWf_ignores.of_keeps (State.closeSession_keeps s) (by decide)

theorem State.recordRelease_recordsWf (v : Word) {s : State} (hs : s.records.Wf) : (s.recordRelease v).2.records.Wf := by
  cases hlist : s.records.list with
  | nil => rw [State.recordRelease_of_empty v hlist]; exact hs
  | cons head rest =>
    rw [State.recordRelease_of_head hlist]
    split
    · exact Records.release_wf hs hlist
    · exact hs

theorem State.writeWord_recordsWf (k : Nat) (v : Word) (s : State) (hs : s.records.Wf) : (s.writeWord k v).2.records.Wf := by
  refine State.writeWord_of_owners recordsWf_ignores [9, 49] (by decide) (fun k hk hs => ?_) k hs
  simp only [List.mem_cons, List.not_mem_nil, or_false] at hk
  rcases hk with rfl | rfl
  · exact State.recordRelease_recordsWf v hs
  · exact Records.reset_wf

/-- Settles O52: the list changes only by a record event, a release and a reset, and each keeps it in form. -/
theorem recordListInvariantKept : Obligations.RecordListInvariantKept := by
  unfold Obligations.RecordListInvariantKept
  exact fun s t hs ht => (recordsWf_plain.steps State.writeWord_recordsWf).step hs ht

end Sys2Proof.Machine
end

section
/-! The accounts through every step (R1, R2, R7, R9): operations that work on one account at a time, and the relations between
settings, scores and states. -/

namespace Sys2Proof.Machine

open Sys2Proof

/-! ## Operations on one account, made for A, B and C -/

/-- An operation that changes one account by a function of the thresholds and the account, and no other. -/
structure AccountOp (f : Replica → State → State) (g : Replica → Thresholds → Account → Account) : Prop where
  moved : ∀ r s, HealthMoved r s (f r s)
  self : ∀ r s, (f r s).account r = g r s.health.thresholds (s.account r)

section ForEach

variable {f : Replica → State → State} {g : Replica → Thresholds → Account → Account} (h : AccountOp f g)
include h

theorem AccountOp.account (r q : Replica) (s : State) :
    (f r s).account q = if q = r then g r s.health.thresholds (s.account r) else s.account q := by
  split
  · rename_i hq; rw [hq, h.self]
  · rename_i hq; exact (h.moved r s).others q hq

theorem AccountOp.forEach_thresholds (s : State) : (s.forEach f).health.thresholds = s.health.thresholds :=
  ((h.moved .c _).thresholds.trans (h.moved .b _).thresholds).trans (h.moved .a s).thresholds

theorem AccountOp.forEach_decayTimer (s : State) : (s.forEach f).health.decayTimer = s.health.decayTimer :=
  ((h.moved .c _).decayTimer.trans (h.moved .b _).decayTimer).trans (h.moved .a s).decayTimer

theorem AccountOp.forEach_decayInterval (s : State) : (s.forEach f).health.decayInterval = s.health.decayInterval :=
  ((h.moved .c _).decayInterval.trans (h.moved .b _).decayInterval).trans (h.moved .a s).decayInterval

theorem AccountOp.forEach_account (r : Replica) (s : State) :
    (s.forEach f).account r = g r s.health.thresholds (s.account r) := by
  have ha := (h.moved .a s).thresholds
  have hb := (h.moved .b (f .a s)).thresholds.trans ha
  unfold State.forEach
  cases r <;> simp [h.account, ha, hb]

end ForEach

/-- An account at a decay expiry (R10): a voting score above 0 loses 1. -/
def Account.decayed (a : Account) : Account := if a.votes then { a with score := a.score - 1 } else a

/-- An account at a decay expiry (R10): SUSPECT at or below CLEAR_AT becomes HEALTHY. -/
def Account.cleared (t : Thresholds) (a : Account) : Account :=
  if a.state = .suspect ∧ a.score ≤ t.clearAt then { a with state := .healthy } else a

/-- An account under new thresholds (R8). -/
def Account.retested (t : Thresholds) (a : Account) : Account :=
  if a.state = .healthy ∧ t.suspectAt ≤ a.score then { a with state := .suspect } else a.cleared t

theorem State.setAccount_suspectEntry_moved (r : Replica) (a : Account) (s : State) :
    HealthMoved r s ((s.setAccount r a).suspectEntry r) :=
  (State.setAccount_healthMoved r a s).trans (HealthMoved.of_keeps r (State.suspectEntry_keeps r _) (by decide))

theorem State.setAccount_suspectLeave_moved (r : Replica) (a : Account) (s : State) :
    HealthMoved r s ((s.setAccount r a).suspectLeave r) :=
  (State.setAccount_healthMoved r a s).trans (HealthMoved.of_keeps r (State.suspectLeave_keeps r _) (by decide))

theorem decayScore_accountOp : AccountOp State.decayScore fun _ _ => Account.decayed where
  moved := fun r s => by
    unfold State.decayScore
    simp only
    split
    · exact State.setAccount_healthMoved r _ s
    · exact HealthMoved.refl r s
  self := fun r s => by
    unfold State.decayScore Account.decayed
    simp only
    split
    · exact State.account_setAccount_self r _ s
    · rfl

theorem decayClear_accountOp : AccountOp State.decayClear fun _ => Account.cleared where
  moved := fun r s => by
    unfold State.decayClear
    simp only
    split
    · exact State.setAccount_suspectLeave_moved r _ s
    · exact HealthMoved.refl r s
  self := fun r s => by
    unfold State.decayClear Account.cleared
    simp only
    split
    · rw [State.suspectLeave_account, State.account_setAccount_self]
    · rfl

theorem retest_accountOp : AccountOp State.retest fun _ => Account.retested where
  moved := fun r s => by
    unfold State.retest
    simp only
    split_ifs
    · exact State.setAccount_suspectEntry_moved r _ s
    · exact State.setAccount_suspectLeave_moved r _ s
    · exact HealthMoved.refl r s
  self := fun r s => by
    unfold State.retest Account.retested Account.cleared
    simp only
    split_ifs
    · rw [State.suspectEntry_account, State.account_setAccount_self]
    · rw [State.suspectLeave_account, State.account_setAccount_self]
    · rfl

theorem State.updateCause_account (c : Cause) (f : CauseState → CauseState) (s : State) (q : Replica) :
    (s.updateCause c f).account q = s.account q := rfl

theorem setAlertMode_accountOp (modes : Tri AlertMode) :
    AccountOp (State.setAlertMode modes) fun r _ a => { a with alertMode := modes.get r } where
  moved := fun r s => (HealthMoved.of_keeps r (State.updateCause_keeps (.health r) _ s) (by decide)).trans
    (State.setAccount_healthMoved r _ _)
  self := fun r s => by
    simp only [State.setAlertMode, State.account_setAccount_self, State.updateCause_account]

/-! ## Relations of one account with the thresholds -/

/-- What Health.Wf asks of the thresholds. -/
def Thresholds.Wf (t : Thresholds) : Prop := t.clearAt < t.suspectAt ∧ t.suspectAt < t.retireAt ∧ t.retireAt ≤ 1023

/-- What Health.Wf asks of one account. -/
structure Account.Wf (t : Thresholds) (a : Account) : Prop where
  score : a.score ≤ 1023
  healthy : a.state = .healthy → a.score < t.suspectAt
  suspect : a.state = .suspect → t.clearAt < a.score

theorem State.healthWf_iff (s : State) :
    s.health.Wf ↔ s.health.thresholds.Wf ∧ (1 ≤ s.health.decayInterval ∧ s.health.decayInterval ≤ 65535)
      ∧ ∀ r, (s.account r).Wf s.health.thresholds :=
  ⟨fun h => ⟨h.settings, h.interval, fun r => ⟨h.score r, h.healthy r, h.suspect r⟩⟩,
    fun ⟨hset, hint, hacc⟩ => ⟨hset, hint, fun r => (hacc r).score, fun r => (hacc r).healthy, fun r => (hacc r).suspect⟩⟩

/-- An operation on one account keeps the relations when it leaves that account in them. -/
theorem HealthMoved.healthWf {r : Replica} {s t : State} (hm : HealthMoved r s t) (hs : s.health.Wf)
    (hr : (t.account r).Wf s.health.thresholds) : t.health.Wf := by
  obtain ⟨hset, hint, hacc⟩ := (State.healthWf_iff s).1 hs
  rw [State.healthWf_iff, hm.thresholds, hm.decayInterval]
  refine ⟨hset, hint, fun q => ?_⟩
  by_cases hq : q = r
  · rw [hq]; exact hr
  · rw [hm.others q hq]; exact hacc q

theorem Account.wf_of_not_votes {t : Thresholds} {a : Account} (h : a.state = .retired ∨ a.state = .rebuilding)
    (hs : a.score ≤ 1023) : a.Wf t :=
  ⟨hs, fun hh => by simp [hh] at h, fun hh => by simp [hh] at h⟩

theorem Account.cleared_wf {t : Thresholds} (ht : t.Wf) {a : Account} (hs : a.score ≤ 1023)
    (hh : a.state = .healthy → a.score < t.suspectAt) : (a.cleared t).Wf t := by
  obtain ⟨hclear, -, -⟩ := ht
  unfold Account.cleared
  split
  · rename_i hc
    exact ⟨hs, fun _ => Nat.lt_of_le_of_lt hc.2 hclear, nofun⟩
  · rename_i hc
    exact ⟨hs, hh, fun hsus => Nat.lt_of_not_le fun hle => hc ⟨hsus, hle⟩⟩

theorem Account.retested_wf {t : Thresholds} (ht : t.Wf) {a : Account} (hs : a.score ≤ 1023) : (a.retested t).Wf t := by
  unfold Account.retested
  split
  · rename_i hc
    exact ⟨hs, nofun, fun _ => Nat.lt_of_lt_of_le ht.1 hc.2⟩
  · rename_i hc
    exact Account.cleared_wf ht hs fun hh => Nat.lt_of_not_le fun hle => hc ⟨hh, hle⟩

theorem Account.decayed_cleared_wf {t : Thresholds} (ht : t.Wf) {a : Account} (ha : a.Wf t) : (a.decayed.cleared t).Wf t := by
  refine Account.cleared_wf ht ?_ fun hh => ?_
  · unfold Account.decayed; split
    · exact (Nat.sub_le _ _).trans ha.score
    · exact ha.score
  · unfold Account.decayed at hh ⊢; split at hh
    · rename_i hv; rw [if_pos hv]; exact Nat.lt_of_le_of_lt (Nat.sub_le _ _) (ha.healthy hh)
    · rename_i hv; rw [if_neg hv]; exact ha.healthy hh

/-! ## The operations of a step -/

/-- Every part but the health monitor. -/
abbrev outsideHealth : List Part :=
  [.pins, .rt, .regions, .ports, .queue, .repair, .scrub, .copy, .records, .alerts, .session, .freeIndex, .pending]

theorem healthWf_ignores : Ignores outsideHealth fun s => s.health.Wf := fun s t hk hs =>
  (congrArg Health.Wf (hk.health (by decide))).mpr hs

theorem State.applyCharge_healthWf (r : Replica) (k : ChargeKind) (s : State) (_ : (s.account r).votes = true)
    (hs : s.health.Wf) : (s.applyCharge r k).health.Wf := by
  have hlimit : s.chargedScore r k ≤ 1023 := Nat.min_le_right _ _
  refine (State.applyCharge_healthMoved r k s).healthWf hs ?_
  by_cases hc : (s.account r).state = .healthy ∧ s.health.thresholds.suspectAt ≤ s.chargedScore r k
  · rw [State.applyCharge_of_crossing hc.1 hc.2, State.suspectEntry_account, State.account_setAccount_self]
    exact ⟨hlimit, nofun, fun _ => Nat.lt_of_lt_of_le hs.settings.1 hc.2⟩
  · rw [State.applyCharge_of_not_crossing hc, State.account_setAccount_self]
    refine ⟨hlimit, fun hh => Nat.lt_of_not_le fun hle => hc ⟨hh, hle⟩, fun hsus => ?_⟩
    have hraised : (s.account r).score ≤ s.chargedScore r k := Nat.le_min.2 ⟨Nat.le_add_right _ _, hs.score r⟩
    exact Nat.lt_of_lt_of_le (hs.suspect r hsus) hraised

theorem State.retireCore_healthWf (r : Replica) (reason : RetireReason) (s : State) (hs : s.health.Wf) :
    (s.retireCore r reason).health.Wf := by
  refine (State.retireCore_healthMoved r reason s).healthWf hs ?_
  rw [State.retireCore_account_self]
  exact Account.wf_of_not_votes (.inl rfl) (hs.score r)

/-- The account of a rebuilt replica as it joins the voting set (R17). -/
def State.joinedAccount (r : Replica) (skips : Nat) (s : State) : Account :=
  if skips = 0 then { s.account r with state := .healthy, score := 0, reason := .none }
  else { s.account r with state := .suspect, score := s.health.thresholds.suspectAt, reason := .none }

theorem State.joinRebuilt_healthMoved (r : Replica) (skips : Nat) (s : State) : HealthMoved r s (s.joinRebuilt r skips) := by
  have hdegraded (u : State) := HealthMoved.of_keeps r (State.handDegraded_keeps u) (by decide)
  unfold State.joinRebuilt
  simp only
  split
  · exact (State.setAccount_healthMoved r _ s).trans (hdegraded _)
  · exact (State.setAccount_suspectEntry_moved r _ s).trans (hdegraded _)

theorem State.handDegraded_account (s : State) (q : Replica) : s.handDegraded.account q = s.account q := rfl

theorem State.joinRebuilt_account_self (r : Replica) (skips : Nat) (s : State) :
    (s.joinRebuilt r skips).account r = s.joinedAccount r skips := by
  unfold State.joinRebuilt State.joinedAccount
  simp only [State.handDegraded_account]
  split
  · exact State.account_setAccount_self r _ s
  · rw [State.suspectEntry_account, State.account_setAccount_self]

theorem State.joinRebuilt_healthWf (r : Replica) (n : Nat) (s : State) (hs : s.health.Wf) : (s.joinRebuilt r n).health.Wf := by
  obtain ⟨hclear, hsuspect, hretire⟩ := hs.settings
  refine (State.joinRebuilt_healthMoved r n s).healthWf hs ?_
  rw [State.joinRebuilt_account_self, State.joinedAccount]
  split
  · exact ⟨Nat.zero_le _, fun _ => Nat.zero_lt_of_lt hclear, nofun⟩
  · exact ⟨(Nat.le_of_lt hsuspect).trans hretire, nofun, fun _ => hclear⟩

theorem State.decay_healthWf (s : State) (hs : s.health.Wf) :
    ((s.restartDecay.forEach State.decayScore).forEach State.decayClear).health.Wf := by
  obtain ⟨hset, hint, hacc⟩ := (State.healthWf_iff s).1 hs
  rw [State.healthWf_iff, decayClear_accountOp.forEach_thresholds, decayClear_accountOp.forEach_decayInterval,
    decayScore_accountOp.forEach_thresholds, decayScore_accountOp.forEach_decayInterval]
  refine ⟨hset, hint, fun r => ?_⟩
  rw [decayClear_accountOp.forEach_account, decayScore_accountOp.forEach_account, decayScore_accountOp.forEach_thresholds]
  exact Account.decayed_cleared_wf hset (hacc r)

theorem Account.reset_wf (present : Bool) : (Account.reset present).Wf (Health.reset ⟨true, true, true⟩).thresholds := by
  cases present <;> exact ⟨by decide, by decide, by decide⟩

theorem Health.reset_wf (present : Tri Bool) : (Health.reset present).Wf where
  settings := (by decide : 16 < 64 ∧ 64 < 512 ∧ 512 ≤ 1023)
  interval := (by decide : 1 ≤ 4096 ∧ 4096 ≤ 65535)
  score := fun r => by cases r <;> exact (Account.reset_wf _).score
  healthy := fun r => by cases r <;> exact (Account.reset_wf _).healthy
  suspect := fun r => by cases r <;> exact (Account.reset_wf _).suspect

theorem healthWf_plain : PlainKeep fun s => s.health.Wf where
  ignores := healthWf_ignores.mono (by decide)
  record := fun e s _ => healthWf_ignores.of_keeps (State.recordEvent_keeps e s) (by decide)
  event := fun c s _ _ => healthWf_ignores.of_keeps (State.raise_keeps c s) (by decide)
  insert := fun b m n s _ => healthWf_ignores.of_keeps (State.insertRepair_keeps b m n s) (by decide)
  remove := fun b r s => healthWf_ignores.of_keeps (State.removeRepair_keeps b r s) (by decide)
  applyCharge := State.applyCharge_healthWf
  retireCore := State.retireCore_healthWf
  joinRebuilt := State.joinRebuilt_healthWf
  unmark := fun s => healthWf_ignores.of_keeps (State.unmark_keeps s) (by decide)
  tail := fun _ rest s _ => healthWf_ignores.of_keeps (State.setQueue_keeps rest s) (by decide)
  reset := fun straps _ _ _ => Health.reset_wf straps.present
  release := fun _ hs => hs
  advance := fun _ _ hs => ⟨hs.settings, hs.interval, hs.score, hs.healthy, hs.suspect⟩
  judge := fun r b s => healthWf_ignores.of_keeps (State.judgeWrite_keeps r b s) (by decide)
  result := fun k o s => healthWf_ignores.of_keeps (State.setResult_keeps k o s) (by decide)
  restart := fun s => healthWf_ignores.of_keeps (State.restartIdle_keeps s) (by decide)
  decay := State.decay_healthWf
  close := fun s => healthWf_ignores.of_keeps (State.closeSession_keeps s) (by decide)

/-! ## The words that set the health monitor -/

theorem Word.field_lt (v : Word) (low width : Nat) : v.field low width < 2 ^ width := Nat.mod_lt _ (Nat.two_pow_pos width)

theorem thresholdsOperand_wf {v : Word} (h : (thresholdsOperand v).valid = true) : (thresholdsOperand v).Wf := by
  simp only [Thresholds.valid, Bool.and_eq_true, decide_eq_true_eq] at h
  exact ⟨h.1, h.2, Nat.le_of_lt_succ (Word.field_lt v 20 10)⟩

/-- The state in which new thresholds are tested on the accounts (R8). -/
def State.withThresholds (t : Thresholds) (s : State) : State := { s with health := { s.health with thresholds := t } }

theorem State.writeThresholds_of_valid {v : Word} (h : (thresholdsOperand v).valid = true) (s : State) :
    s.writeThresholds v = (.done, (s.withThresholds (thresholdsOperand v)).forEach State.retest) := by
  simp [State.writeThresholds, h, State.withThresholds]

theorem State.writeThresholds_of_invalid {v : Word} (h : (thresholdsOperand v).valid = false) (s : State) :
    s.writeThresholds v = (.refusedArgument, s) := by
  simp [State.writeThresholds, h]

theorem State.writeThresholds_healthWf (v : Word) {s : State} (hs : s.health.Wf) : (s.writeThresholds v).2.health.Wf := by
  cases hv : (thresholdsOperand v).valid with
  | false => rw [State.writeThresholds_of_invalid hv]; exact hs
  | true =>
    have ht := thresholdsOperand_wf hv
    rw [State.writeThresholds_of_valid hv, State.healthWf_iff, retest_accountOp.forEach_thresholds,
      retest_accountOp.forEach_decayInterval]
    refine ⟨ht, hs.interval, fun r => ?_⟩
    rw [retest_accountOp.forEach_account]
    exact Account.retested_wf ht (hs.score r)

theorem housekeepingOperand_interval {v : Word} {f : HousekeepingFields} (h : housekeepingOperand v = some f) :
    1 ≤ f.decayInterval ∧ f.decayInterval ≤ 65535 := by
  unfold housekeepingOperand at h
  split at h
  · split at h <;> cases h
    rename_i hzero
    exact ⟨Nat.one_le_iff_ne_zero.2 hzero, Nat.le_of_lt_succ (Word.field_lt v 0 16)⟩
  · cases h

/-- The state in which a taken HOUSEKEEPING write turns to the alert modes (R9, R200). -/
def State.housekept (f : HousekeepingFields) (s : State) : State :=
  { s with
    health :=
      { s.health with
        decayInterval := f.decayInterval
        decayTimer := if s.health.decayInterval = f.decayInterval then s.health.decayTimer else f.decayInterval }
    session := { s.session with sessionIdle := f.sessionIdle } }

theorem State.writeHousekeeping_of_some {v : Word} {f : HousekeepingFields} (h : housekeepingOperand v = some f) (s : State) :
    s.writeHousekeeping v = (.done, (s.housekept f).forEach (State.setAlertMode f.modes)) := by
  simp [State.writeHousekeeping, h, State.housekept]

theorem State.writeHousekeeping_of_none {v : Word} (h : housekeepingOperand v = none) (s : State) :
    s.writeHousekeeping v = (.refusedArgument, s) := by
  simp [State.writeHousekeeping, h]

theorem State.writeHousekeeping_healthWf (v : Word) {s : State} (hs : s.health.Wf) : (s.writeHousekeeping v).2.health.Wf := by
  cases hv : housekeepingOperand v with
  | none => rw [State.writeHousekeeping_of_none hv]; exact hs
  | some f =>
    rw [State.writeHousekeeping_of_some hv, State.healthWf_iff, (setAlertMode_accountOp _).forEach_thresholds,
      (setAlertMode_accountOp _).forEach_decayInterval]
    refine ⟨hs.settings, housekeepingOperand_interval hv, fun r => ?_⟩
    rw [(setAlertMode_accountOp _).forEach_account]
    exact ⟨hs.score r, hs.healthy r, hs.suspect r⟩

theorem State.startRebuild_healthWf (r : Replica) {s : State} (hs : s.health.Wf) : (s.startRebuild r).health.Wf := by
  refine (State.startRebuild_healthMoved r s).healthWf hs ?_
  rw [State.startRebuild_account_self]
  exact Account.wf_of_not_votes (.inr rfl) (Nat.zero_le _)

/-- The states a REBUILD can leave. -/
theorem State.commandRebuild_keeps_of {P : State → Prop} {s : State} (hs : P s)
    (hstart : ∀ r, s.copy.state = .idle → (s.account r).state = .retired → P ((s.startRebuild r).rebuildPort r)) (v : Word) :
    P (s.commandRebuild v).2 := by
  cases hr : replicaOperand v with
  | none => rw [State.commandRebuild_of_no_replica hr]; exact hs
  | some r =>
    by_cases hcopy : s.copy.state = .idle
    case neg => rw [State.commandRebuild_of_copying hr hcopy]; exact hs
    by_cases hstate : (s.account r).state = .retired
    case neg => rw [State.commandRebuild_of_not_retired hr hcopy hstate]; exact hs
    rw [State.commandRebuild_of_retired hr hcopy hstate]
    split
    · exact hs
    · exact hstart r hcopy hstate

theorem State.commandScoreClear_healthWf (v : Word) {s : State} (hs : s.health.Wf) : (s.commandScoreClear v).2.health.Wf := by
  cases hr : replicaOperand v with
  | none => rw [State.commandScoreClear_of_no_replica hr]; exact hs
  | some r =>
    cases hv : (s.account r).votes with
    | false => rw [State.commandScoreClear_of_not_votes hr hv]; exact hs
    | true =>
      obtain ⟨u, hu, hc⟩ := State.commandScoreClear_of_votes hr hv
      rw [hu]
      refine hc.health.healthWf hs ?_
      rw [hc.account]
      exact ⟨Nat.zero_le _, fun _ => Nat.zero_lt_of_lt hs.settings.1, nofun⟩

theorem State.softResetAccounts_account (r : Replica) (s : State) :
    s.softResetAccounts.account r = (s.account r).softReset := by
  cases r <;> rfl

theorem Account.softReset_wf {t : Thresholds} (ht : t.Wf) {a : Account} (ha : a.Wf t) : a.softReset.Wf t := by
  unfold Account.softReset
  split
  · exact ⟨Nat.zero_le _, fun _ => Nat.zero_lt_of_lt ht.1, nofun⟩
  · exact ⟨Nat.zero_le _, fun _ => Nat.zero_lt_of_lt ht.1, nofun⟩
  · exact ha
  · exact ha

theorem State.softResetAccounts_healthWf (s : State) (hs : s.health.Wf) : s.softResetAccounts.health.Wf := by
  obtain ⟨hset, hint, hacc⟩ := (State.healthWf_iff s).1 hs
  rw [State.healthWf_iff]
  exact ⟨hset, hint, fun r => by rw [State.softResetAccounts_account]; exact Account.softReset_wf hset (hacc r)⟩

theorem State.writeWord_healthWf (k : Nat) (v : Word) (s : State) (hs : s.health.Wf) : (s.writeWord k v).2.health.Wf := by
  refine State.writeWord_of_owners healthWf_ignores [20, 22, 40, 41, 43, 46, 49] (by decide) (fun k hk hs => ?_) k hs
  simp only [List.mem_cons, List.not_mem_nil, or_false] at hk
  rcases hk with rfl | rfl | rfl | rfl | rfl | rfl | rfl
  · exact State.writeThresholds_healthWf v hs
  · exact State.writeHousekeeping_healthWf v hs
  · exact healthWf_plain.commandRetire v hs
  · exact State.commandRebuild_keeps_of (P := fun s => s.health.Wf) hs
      (fun r _ _ => healthWf_ignores.of_keeps (State.rebuildPort_keeps r _) (by decide) (State.startRebuild_healthWf r hs)) v
  · exact healthWf_plain.commandCopyAbort hs
  · exact State.commandScoreClear_healthWf v hs
  · exact State.commandSoftReset_keeps_of healthWf_plain.ignores (fun s hs => State.softResetAccounts_healthWf _ hs)
      (fun _ => healthWf_plain.copyEnd _) (fun s => healthWf_ignores.of_keeps (State.setQueue_keeps [] s) (by decide))
      (fun s => healthWf_ignores.of_keeps (State.softResetRecords_keeps s) (by decide))
      (fun s => healthWf_ignores.of_keeps (State.retakeConditions_keeps s) (by decide)) healthWf_plain.close hs

/-- Settles O55: every operation on an account leaves it in its relations with the thresholds, and the settings words are checked. -/
theorem healthInvariantKept : Obligations.HealthInvariantKept := by
  unfold Obligations.HealthInvariantKept
  exact fun s t hs ht => (healthWf_plain.steps State.writeWord_healthWf).step hs ht

end Sys2Proof.Machine
end

section
/-! The region table and the control session through every step (R51, R55, R58, R189, R190, R192, R205). -/

namespace Sys2Proof.Machine

open Sys2Proof

/-! ## The region table -/

/-- Every part but the region table and the pins. -/
abbrev outsideRegions : List Part :=
  [.health, .rt, .ports, .queue, .repair, .scrub, .copy, .records, .alerts, .session, .freeIndex, .pending]

/-- The region table stays in form where its descriptors and the span stay, and the fill mark stays or is cleared. -/
theorem State.RegionsWf.of_same {s t : State} (h : s.RegionsWf) (hd : t.regions.descriptors = s.regions.descriptors)
    (hspan : t.spanBlocks = s.spanBlocks)
    (hmark : ∀ n, t.regions.fillMark = some n → s.regions.descriptors[n].enabled = true) : t.RegionsWf where
  bounds := fun n hn => by rw [hd] at hn ⊢; rw [hspan]; exact h.bounds n hn
  apart := fun m n hmn hm hn => by rw [hd] at hm hn ⊢; exact h.apart m n hmn hm hn
  marked := fun n hn => by rw [hd]; exact hmark n hn

theorem regionsWf_ignores : Ignores outsideRegions State.RegionsWf := fun s t hk hs =>
  hs.of_same (by rw [hk.regions (by decide)]) (hk.spanBlocks (by decide)) fun n hn =>
    hs.marked n (by rw [← hn, hk.regions (by decide)])

/-- A descriptor that changes within its bounds, apart from the others, and not from under a fill (R55, R57, R58). -/
theorem State.setDescriptor_regionsWf {n : RegionId} {d : Descriptor} {s : State} (hs : s.RegionsWf)
    (hd : d.enabled = true → d.first ≤ d.last ∧ d.last < s.spanBlocks ∧ ¬s.regions.SharesBlock n d.first d.last)
    (hmark : s.regions.fillMark ≠ some n) : (s.setDescriptor n d).RegionsWf := by
  have hc := State.setDescriptor_changed n d s
  have hspan : (s.setDescriptor n d).spanBlocks = s.spanBlocks := hc.keeps.spanBlocks (by decide)
  have hapart (m : RegionId) (hm : m ≠ n) (he : s.regions.descriptors[m].enabled = true) (hen : d.enabled = true) :
      s.regions.descriptors[m].last < d.first ∨ d.last < s.regions.descriptors[m].first := by
    by_contra hn
    simp only [not_or, Nat.not_lt] at hn
    exact (hd hen).2.2 ⟨m, hm, he, hn.1, hn.2⟩
  refine ⟨fun m hm => ?_, fun m k hmk hm hk => ?_, fun m hm => ?_⟩
  · by_cases hmn : m = n
    · subst hmn
      rw [hc.holds] at hm ⊢
      rw [hspan]
      exact ⟨(hd hm).1, (hd hm).2.1⟩
    · rw [hc.others m hmn] at hm ⊢
      rw [hspan]
      exact hs.bounds m hm
  · by_cases hmn : m = n
    · subst hmn
      have hkn : k ≠ m := hmk.symm
      rw [hc.holds] at hm ⊢
      rw [hc.others k hkn] at hk ⊢
      exact (hapart k hkn hk hm).symm
    · rw [hc.others m hmn] at hm ⊢
      by_cases hkn : k = n
      · subst hkn
        rw [hc.holds] at hk ⊢
        exact hapart m hmn hm hk
      · rw [hc.others k hkn] at hk ⊢
        exact hs.apart m k hmk hm hk
  · have hmarked : s.regions.fillMark = some m := by rw [← hc.fillMark]; exact hm
    have hmn : m ≠ n := fun h => hmark (h ▸ hmarked)
    rw [hc.others m hmn]
    exact hs.marked m hmarked

theorem State.commandRegionSet_regionsWf (v : Word) {s : State} (hs : s.RegionsWf) : (s.commandRegionSet v).2.RegionsWf := by
  cases hn : regionOperand v with
  | none => rw [State.commandRegionSet_of_no_region hn]; exact hs
  | some n =>
    by_cases hfill : s.regions.fillMark = some n
    case pos => rw [State.commandRegionSet_of_filled hn hfill]; exact hs
    cases hmode : readModeOperand s.session.stages[2] with
    | none => rw [State.commandRegionSet_of_invalid_policy hn hfill (.inl hmode)]; exact hs
    | some mode =>
      cases hscrub : scrubOperand s.session.stages[2] with
      | none => rw [State.commandRegionSet_of_invalid_policy hn hfill (.inr hscrub)]; exact hs
      | some scrub =>
        rw [State.commandRegionSet_of_policy hn hfill hmode hscrub]
        split_ifs with hbounds hshares
        · exact hs
        · exact hs
        · rw [not_or, Nat.not_lt, Nat.not_le] at hbounds
          exact State.setDescriptor_regionsWf hs
            (fun _ => ⟨hbounds.1, hbounds.2, mt (Regions.overlaps_iff _ _ _ _).2 hshares⟩) hfill

theorem State.commandRegionClear_regionsWf (v : Word) {s : State} (hs : s.RegionsWf) :
    (s.commandRegionClear v).2.RegionsWf := by
  cases hn : regionOperand v with
  | none => rw [State.commandRegionClear_of_no_region hn]; exact hs
  | some n =>
    by_cases hfill : s.regions.fillMark = some n
    case pos => rw [State.commandRegionClear_of_filled hn hfill]; exact hs
    rw [State.commandRegionClear_of_not_filled hn hfill]
    exact State.setDescriptor_regionsWf hs nofun hfill

theorem State.startFill_regionsWf {n : RegionId} {s : State} (hs : s.RegionsWf)
    (hn : s.regions.descriptors[n].enabled = true) : (s.startFill n).RegionsWf :=
  hs.of_same rfl rfl fun m hm => by
    obtain rfl := Option.some.inj (hm : some n = some m)
    exact hn

/-- The states a FILL can leave. -/
theorem State.commandFill_keeps_of {P : State → Prop} {s : State} (hs : P s)
    (hstart : ∀ n, s.copy.state = .idle → s.regions.descriptors[n].enabled = true → P (s.fillStarted n)) (v : Word) :
    P (s.commandFill v).2 := by
  cases hn : regionOperand v with
  | none => rw [State.commandFill_of_no_region hn]; exact hs
  | some n =>
    rw [State.commandFill_eq hn]
    split_ifs with hcopy henabled
    · exact hs
    · exact hs
    · exact hs
    · exact hstart n (not_not.1 hcopy) (by simpa using henabled)

theorem State.writeTiming_regionsWf (v : Word) {s : State} (hs : s.RegionsWf) : (s.writeTiming v).2.RegionsWf := by
  unfold State.writeTiming
  simp only
  split
  · exact hs.of_same rfl rfl hs.marked
  · exact hs

theorem State.reset_descriptors (n : RegionId) : Regions.reset.descriptors[n] = Descriptor.reset :=
  Vector.getElem_replicate n.isLt

theorem State.afterReset_regionsWf (straps : Straps) (levels : Tri Bool) (n : Nat) (q : List Instr) :
    (State.afterReset straps levels n q).RegionsWf := by
  have hdisabled (m : RegionId) : (State.afterReset straps levels n q).regions.descriptors[m].enabled = false :=
    congrArg Descriptor.enabled (State.reset_descriptors m)
  exact ⟨fun m hm => absurd ((hdisabled m).symm.trans hm) (by decide),
    fun m _ _ hm => absurd ((hdisabled m).symm.trans hm) (by decide), nofun⟩

theorem State.retireAccount_keeps (r : Replica) (reason : RetireReason) (s : State) :
    Keeps [.health, .alerts] s (s.retireAccount r reason) := by
  unfold State.retireAccount
  simp only
  refine (State.handDegraded_keeps _).after (by decide) ((State.raise_keeps _ _).after (by decide)
    ((State.setAccount_keeps _ _ _).after (by decide) ?_))
  split
  · exact (State.suspectLeave_keeps r s).mono (by decide)
  · exact Keeps.refl _ _

/-- A retirement leaves the regions alone. -/
theorem State.retireCore_frame (r : Replica) (reason : RetireReason) (s : State) :
    Keeps [.health, .rt, .ports, .queue, .repair, .scrub, .copy, .alerts] s (s.retireCore r reason) :=
  (State.retireAccount_keeps r reason s).step (State.retireCore_after_retireAccount r reason s).1 (by decide) (by decide)

theorem regionsWf_plain : PlainKeep State.RegionsWf where
  ignores := regionsWf_ignores.mono (by decide)
  record := fun e s _ => regionsWf_ignores.of_keeps (State.recordEvent_keeps e s) (by decide)
  event := fun c s _ _ => regionsWf_ignores.of_keeps (State.raise_keeps c s) (by decide)
  insert := fun b m n s _ => regionsWf_ignores.of_keeps (State.insertRepair_keeps b m n s) (by decide)
  remove := fun b r s => regionsWf_ignores.of_keeps (State.removeRepair_keeps b r s) (by decide)
  applyCharge := fun r k s _ => regionsWf_ignores.of_keeps (State.applyCharge_keeps r k s) (by decide)
  retireCore := fun r reason s => regionsWf_ignores.of_keeps (State.retireCore_frame r reason s) (by decide)
  joinRebuilt := fun r n s => regionsWf_ignores.of_keeps (State.joinRebuilt_keeps r n s) (by decide)
  unmark := fun _ hs => hs.of_same rfl rfl nofun
  tail := fun _ rest s _ => regionsWf_ignores.of_keeps (State.setQueue_keeps rest s) (by decide)
  reset := State.afterReset_regionsWf
  release := fun _ hs => hs.of_same rfl rfl hs.marked
  advance := fun n s => regionsWf_ignores.of_keeps (State.advance_keeps n s) (by decide)
  judge := fun r b s => regionsWf_ignores.of_keeps (State.judgeWrite_keeps r b s) (by decide)
  result := fun k o s => regionsWf_ignores.of_keeps (State.setResult_keeps k o s) (by decide)
  restart := fun s => regionsWf_ignores.of_keeps (State.restartIdle_keeps s) (by decide)
  decay := fun s => regionsWf_ignores.of_keeps (State.decay_keeps s) (by decide)
  close := fun s => regionsWf_ignores.of_keeps (State.closeSession_keeps s) (by decide)

theorem State.writeWord_regionsWf (k : Nat) (v : Word) (s : State) (hs : s.RegionsWf) : (s.writeWord k v).2.RegionsWf := by
  refine State.writeWord_of_owners regionsWf_ignores [21, 40, 42, 43, 44, 45, 49] (by decide) (fun k hk hs => ?_) k hs
  simp only [List.mem_cons, List.not_mem_nil, or_false] at hk
  rcases hk with rfl | rfl | rfl | rfl | rfl | rfl | rfl
  · exact State.writeTiming_regionsWf v hs
  · exact regionsWf_plain.commandRetire v hs
  · exact State.commandFill_keeps_of hs (fun n _ hn => regionsWf_ignores.of_keeps (State.claim_keeps _ _ _) (by decide)
      (regionsWf_ignores.of_keeps (State.purgeQueue_keeps _ _ _) (by decide) (State.startFill_regionsWf hs hn))) v
  · exact regionsWf_plain.commandCopyAbort hs
  · exact State.commandRegionSet_regionsWf v hs
  · exact State.commandRegionClear_regionsWf v hs
  · exact State.commandSoftReset_keeps_of regionsWf_plain.ignores
      (fun s => regionsWf_ignores.of_keeps ((State.softClearAlerts_keeps s).step (N := [.alerts, .health])
        (State.softResetAccounts_keeps _) (by decide) (by decide)) (by decide))
      (fun _ => regionsWf_plain.copyEnd _) (fun s => regionsWf_ignores.of_keeps (State.setQueue_keeps [] s) (by decide))
      (fun s => regionsWf_ignores.of_keeps (State.softResetRecords_keeps s) (by decide))
      (fun s => regionsWf_ignores.of_keeps (State.retakeConditions_keeps s) (by decide)) regionsWf_plain.close hs

/-- Settles O57: a descriptor changes only by the two region commands, and the mark only at the ends of a fill. -/
theorem regionsInvariantKept : Obligations.RegionsInvariantKept := by
  unfold Obligations.RegionsInvariantKept
  exact fun s t hs ht => (regionsWf_plain.steps State.writeWord_regionsWf).step hs ht

/-! ## The control session -/

/-- Every part but the session and the pins. -/
abbrev outsideSession : List Part :=
  [.health, .rt, .regions, .ports, .queue, .repair, .scrub, .copy, .records, .alerts, .freeIndex, .pending]

/-- What SessionWf asks of the session, given the span and KNOCK_EN. -/
structure Session.Wf (spanBytes : Nat) (knockEn : Bool) (c : Session) : Prop where
  base : c.base % 512 = 0 ∧ c.base + 512 ≤ spanBytes
  pending : ∀ b, c.pendingBase = some b → b % 512 = 0 ∧ b + 512 ≤ spanBytes
  timer : c.idleTimer.isSome = true → c.state = .opened
  closed : knockEn = false → c.state = .closed

theorem State.sessionWf_iff (s : State) : s.SessionWf ↔ s.session.Wf s.spanBytes s.pins.straps.knockEn :=
  ⟨fun h => ⟨h.base, h.pending, h.timer, h.closed⟩, fun h => ⟨h.base, h.pending, h.timer, h.closed⟩⟩

theorem sessionWf_ignores : Ignores outsideSession State.SessionWf := fun s t hk hs => by
  rw [State.sessionWf_iff] at hs ⊢
  rw [hk.session (by decide), hk.spanBytes (by decide), hk.pins (by decide)]
  exact hs

section SessionMoves

variable {n : Nat} {knockEn : Bool} {c : Session}

theorem Session.Wf.judge (h : c.Wf n knockEn) (r : Request) (refused : Bool) : (c.judge knockEn r refused).Wf n knockEn := by
  cases hk : knockEn with
  | false => rw [hk] at h; exact h
  | true =>
    have hstopped (hne : c.state ≠ .opened) : c.idleTimer.isSome = true → False := fun ht => hne (h.timer ht)
    simp only [Session.judge, Bool.not_true]
    split
    · contradiction
    · split
      · exact { h with closed := nofun }
      · rename_i hstate
        split
        · exact ⟨h.base, h.pending, fun ht => (hstopped (by simp [hstate]) ht).elim, nofun⟩
        · exact { h with closed := nofun }
      · rename_i hstate
        split_ifs
        · exact { h with closed := nofun }
        · exact ⟨h.base, h.pending, fun _ => rfl, nofun⟩
        · exact ⟨h.base, h.pending, fun ht => (hstopped (by simp [hstate]) ht).elim, nofun⟩

/-- A change that leaves base, pending base and state, and starts no timer outside OPEN. -/
theorem Session.Wf.of_same {d : Session} (h : c.Wf n knockEn) (hbase : d.base = c.base) (hpending : d.pendingBase = c.pendingBase)
    (hstate : d.state = c.state) (htimer : d.idleTimer.isSome = true → c.state = .opened) : d.Wf n knockEn :=
  ⟨hbase ▸ h.base, hpending ▸ h.pending, fun ht => hstate ▸ htimer ht, fun hk => hstate ▸ h.closed hk⟩

end SessionMoves

theorem State.judgeWrite_sessionWf (r : Request) (refused : Bool) (s : State) (hs : s.SessionWf) :
    (s.judgeWrite r refused).SessionWf := by
  unfold State.judgeWrite
  split
  · exact hs
  · rw [State.sessionWf_iff] at hs ⊢
    exact hs.judge r refused

theorem State.restartIdle_sessionWf (s : State) (hs : s.SessionWf) : s.restartIdle.SessionWf := by
  unfold State.restartIdle
  split
  · rename_i hopen
    exact (State.sessionWf_iff _).2 (((State.sessionWf_iff s).1 hs).of_same rfl rfl rfl fun _ => hopen)
  · exact hs

theorem State.closeSession_sessionWf (s : State) (hs : s.SessionWf) : s.closeSession.SessionWf where
  base := by
    have hbase : s.closeSession.session.base = s.session.pendingBase.getD s.session.base := rfl
    rw [hbase]
    cases hp : s.session.pendingBase with
    | none => exact hs.base
    | some b => exact hs.pending b hp
  pending := nofun
  timer := nofun
  closed := fun _ => rfl

theorem State.commandMoveAperture_sessionWf (v : Word) {s : State} (hs : s.SessionWf) :
    (s.commandMoveAperture v).2.SessionWf := by
  by_cases hplaced : v.toNat % 512 = 0 ∧ v.toNat + 512 ≤ s.spanBytes
  · rw [State.commandMoveAperture_of_placed hplaced]
    exact ⟨hs.base, fun b hb => Option.some.inj (hb : some v.toNat = some b) ▸ hplaced, hs.timer, hs.closed⟩
  · rw [State.commandMoveAperture_of_not_placed hplaced]
    exact hs

theorem State.writeHousekeeping_sessionWf (v : Word) {s : State} (hs : s.SessionWf) : (s.writeHousekeeping v).2.SessionWf := by
  cases hv : housekeepingOperand v with
  | none => rw [State.writeHousekeeping_of_none hv]; exact hs
  | some f =>
    rw [State.writeHousekeeping_of_some hv]
    exact sessionWf_ignores.of_keeps (State.forEach_keeps (State.setAlertMode_keeps f.modes) _) (by decide)
      ⟨hs.base, hs.pending, hs.timer, hs.closed⟩

theorem Config.spanBytes_placed (span : BitVec 2) :
    (Config.spanBlocks span * 64 - 512) % 512 = 0 ∧ Config.spanBlocks span * 64 - 512 + 512 ≤ Config.spanBlocks span * 64 := by
  revert span; decide

theorem State.afterReset_sessionWf (straps : Straps) (levels : Tri Bool) (n : Nat) (q : List Instr) :
    (State.afterReset straps levels n q).SessionWf :=
  ⟨Config.spanBytes_placed straps.span, nofun, nofun, fun _ => rfl⟩

theorem sessionWf_plain : PlainKeep State.SessionWf where
  ignores := sessionWf_ignores.mono (by decide)
  record := fun e s _ => sessionWf_ignores.of_keeps (State.recordEvent_keeps e s) (by decide)
  event := fun c s _ _ => sessionWf_ignores.of_keeps (State.raise_keeps c s) (by decide)
  insert := fun b m n s _ => sessionWf_ignores.of_keeps (State.insertRepair_keeps b m n s) (by decide)
  remove := fun b r s => sessionWf_ignores.of_keeps (State.removeRepair_keeps b r s) (by decide)
  applyCharge := fun r k s _ => sessionWf_ignores.of_keeps (State.applyCharge_keeps r k s) (by decide)
  retireCore := fun r reason s => sessionWf_ignores.of_keeps (State.retireCore_keeps r reason s) (by decide)
  joinRebuilt := fun r n s => sessionWf_ignores.of_keeps (State.joinRebuilt_keeps r n s) (by decide)
  unmark := fun s => sessionWf_ignores.of_keeps (State.unmark_keeps s) (by decide)
  tail := fun _ rest s _ => sessionWf_ignores.of_keeps (State.setQueue_keeps rest s) (by decide)
  reset := State.afterReset_sessionWf
  release := fun _ hs => ⟨hs.base, hs.pending, hs.timer, hs.closed⟩
  advance := fun _ _ hs => ⟨hs.base, hs.pending, fun ht => hs.timer (by simpa [State.advance] using ht), hs.closed⟩
  judge := State.judgeWrite_sessionWf
  result := fun _ _ _ hs => ⟨hs.base, hs.pending, hs.timer, hs.closed⟩
  restart := State.restartIdle_sessionWf
  decay := fun s => sessionWf_ignores.of_keeps (State.decay_keeps s) (by decide)
  close := State.closeSession_sessionWf

theorem State.writeStage_sessionWf (i : Fin 4) (v : Word) {s : State} (hs : s.SessionWf) : (s.writeStage i v).2.SessionWf :=
  ⟨hs.base, hs.pending, hs.timer, hs.closed⟩

theorem State.writeWord_sessionWf (k : Nat) (v : Word) (s : State) (hs : s.SessionWf) : (s.writeWord k v).2.SessionWf := by
  refine State.writeWord_of_owners sessionWf_ignores [16, 17, 18, 19, 22, 48, 49, 62] (by decide) (fun k hk hs => ?_) k hs
  simp only [List.mem_cons, List.not_mem_nil, or_false] at hk
  rcases hk with rfl | rfl | rfl | rfl | rfl | rfl | rfl | rfl
  · exact State.writeStage_sessionWf 0 v hs
  · exact State.writeStage_sessionWf 1 v hs
  · exact State.writeStage_sessionWf 2 v hs
  · exact State.writeStage_sessionWf 3 v hs
  · exact State.writeHousekeeping_sessionWf v hs
  · exact State.commandMoveAperture_sessionWf v hs
  · exact State.commandSoftReset_keeps_of sessionWf_plain.ignores
      (fun s => sessionWf_ignores.of_keeps ((State.softClearAlerts_keeps s).step (N := [.alerts, .health])
        (State.softResetAccounts_keeps _) (by decide) (by decide)) (by decide))
      (fun _ => sessionWf_plain.copyEnd _) (fun s => sessionWf_ignores.of_keeps (State.setQueue_keeps [] s) (by decide))
      (fun s => sessionWf_ignores.of_keeps (State.softResetRecords_keeps s) (by decide))
      (fun s => sessionWf_ignores.of_keeps (State.retakeConditions_keeps s) (by decide)) sessionWf_plain.close hs
  · exact State.closeSession_sessionWf s hs

/-- Settles O56: the session changes only by the judging of writes, the idle timer, its own words and a close. -/
theorem sessionInvariantKept : Obligations.SessionInvariantKept := by
  unfold Obligations.SessionInvariantKept
  exact fun s t hs ht => (sessionWf_plain.steps State.writeWord_sessionWf).step hs ht

end Sys2Proof.Machine
end

section
/-! The voting set under the operations of the health monitor, and the repair queue through every step (R107, R108, R111). -/

namespace Sys2Proof.Machine

open Sys2Proof

/-! ## The voting set -/

theorem HealthMoved.voting {r : Replica} {s t : State} (h : HealthMoved r s t)
    (hr : (t.account r).votes = (s.account r).votes) : t.voting = s.voting :=
  State.voting_congr fun q => by
    by_cases hq : q = r
    · rw [hq, hr]
    · rw [h.others q hq]

theorem State.applyCharge_voting (r : Replica) (k : ChargeKind) (s : State) : (s.applyCharge r k).voting = s.voting := by
  refine (State.applyCharge_healthMoved r k s).voting ?_
  by_cases hc : (s.account r).state = .healthy ∧ s.health.thresholds.suspectAt ≤ s.chargedScore r k
  · rw [State.applyCharge_of_crossing hc.1 hc.2, State.suspectEntry_account, State.account_setAccount_self]
    exact ((Account.votes_iff _).2 (.inl hc.1)).symm
  · rw [State.applyCharge_of_not_crossing hc, State.account_setAccount_self]
    rfl

theorem AccountOp.forEach_voting {f : Replica → State → State} {g : Replica → Thresholds → Account → Account}
    (h : AccountOp f g) (hg : ∀ r t a, (g r t a).votes = a.votes) (s : State) : (s.forEach f).voting = s.voting :=
  State.voting_congr fun r => by rw [h.forEach_account, hg]

theorem Account.decayed_votes (a : Account) : a.decayed.votes = a.votes := by
  unfold Account.decayed; split <;> rfl

theorem Account.cleared_votes (t : Thresholds) (a : Account) : (a.cleared t).votes = a.votes := by
  unfold Account.cleared
  split
  · rename_i hc; exact ((Account.votes_iff a).2 (.inr hc.1)).symm
  · rfl

theorem Account.retested_votes (t : Thresholds) (a : Account) : (a.retested t).votes = a.votes := by
  unfold Account.retested
  split
  · rename_i hc; exact ((Account.votes_iff a).2 (.inl hc.1)).symm
  · exact Account.cleared_votes t a

theorem State.decay_voting (s : State) :
    ((s.restartDecay.forEach State.decayScore).forEach State.decayClear).voting = s.voting :=
  (decayClear_accountOp.forEach_voting (fun _ => Account.cleared_votes) _).trans
    (decayScore_accountOp.forEach_voting (fun _ _ => Account.decayed_votes) _)

theorem State.writeThresholds_voting (v : Word) (s : State) : (s.writeThresholds v).2.voting = s.voting := by
  cases hv : (thresholdsOperand v).valid with
  | false => rw [State.writeThresholds_of_invalid hv]
  | true =>
    rw [State.writeThresholds_of_valid hv]
    exact retest_accountOp.forEach_voting (fun _ => Account.retested_votes) _

theorem State.writeHousekeeping_voting (v : Word) (s : State) : (s.writeHousekeeping v).2.voting = s.voting := by
  cases hv : housekeepingOperand v with
  | none => rw [State.writeHousekeeping_of_none hv]
  | some f =>
    rw [State.writeHousekeeping_of_some hv]
    exact (setAlertMode_accountOp f.modes).forEach_voting (fun _ _ _ => rfl) _

theorem State.startRebuild_voting {r : Replica} {s : State} (h : (s.account r).state = .retired) :
    (s.startRebuild r).voting = s.voting := by
  refine (State.startRebuild_healthMoved r s).voting ?_
  rw [State.startRebuild_account_self, (Account.votes_eq_false_iff (s.account r)).2 (.inl h)]
  rfl

theorem State.commandScoreClear_voting (v : Word) (s : State) : (s.commandScoreClear v).2.voting = s.voting := by
  cases hr : replicaOperand v with
  | none => rw [State.commandScoreClear_of_no_replica hr]
  | some r =>
    cases hv : (s.account r).votes with
    | false => rw [State.commandScoreClear_of_not_votes hr hv]
    | true =>
      obtain ⟨u, hu, hc⟩ := State.commandScoreClear_of_votes hr hv
      rw [hu]
      exact hc.health.voting (by rw [hc.account, hv]; rfl)

theorem Account.softReset_votes (a : Account) : a.softReset.votes = a.votes := by
  unfold Account.softReset
  split <;> simp_all [Account.votes]

theorem State.softResetAccounts_voting (s : State) : s.softResetAccounts.voting = s.voting :=
  State.voting_congr fun r => by rw [State.softResetAccounts_account, Account.softReset_votes]

/-- Who votes before a rebuilt replica joins votes after. -/
theorem State.joinRebuilt_votes {r q : Replica} {n : Nat} {s : State} (h : s.voting.get q = true) :
    (s.joinRebuilt r n).voting.get q = true := by
  rw [State.voting_get] at h ⊢
  by_cases hq : q = r
  · rw [hq, State.joinRebuilt_account_self, State.joinedAccount]
    split <;> rfl
  · rw [(State.joinRebuilt_healthMoved r n s).others q hq]
    exact h

/-- A retirement takes its replica out of the voting set, and no other. -/
theorem State.retireCore_voting (r q : Replica) (reason : RetireReason) (s : State) :
    (s.retireCore r reason).voting.get q = (s.voting.get q && decide (q ≠ r)) := by
  rw [State.voting_get, State.voting_get]
  by_cases hq : q = r
  · rw [hq, State.retireCore_account_self]; simp [Account.votes]
  · rw [(State.retireCore_healthMoved r reason s).others q hq]; simp [hq]

/-! ## A queue and the voting set -/

/-- What QueueWf asks of one entry. -/
structure QueueEntry.Wf (voting : ReplicaSet) (e : QueueEntry) : Prop where
  mask : e.mask.isEmpty = false
  attempts : e.attempts ≤ 2
  voting : ∀ r, e.mask.get r = true → voting.get r = true

/-- What QueueWf asks of the queue, given the voting set. -/
structure QueueListWf (voting : ReplicaSet) (q : List QueueEntry) : Prop where
  depth : q.length ≤ 32
  distinct : q.Pairwise fun x y => x.block ≠ y.block
  each : ∀ e ∈ q, e.Wf voting

theorem State.queueWf_iff (s : State) : s.QueueWf ↔ QueueListWf s.voting s.queue :=
  ⟨fun h => ⟨h.depth, h.distinct, fun e he => ⟨(h.each e he).1, (h.each e he).2, fun r hr => by
    rw [State.voting_get]; exact h.voting e he r hr⟩⟩,
    fun h => ⟨h.depth, h.distinct, fun e he => ⟨(h.each e he).mask, (h.each e he).attempts⟩, fun e he r hr => by
      rw [← State.voting_get]; exact (h.each e he).voting r hr⟩⟩

section QueueList

variable {voting : ReplicaSet} {q : List QueueEntry}

theorem QueueListWf.mono {voting' : ReplicaSet} (h : QueueListWf voting q)
    (hv : ∀ r, voting.get r = true → voting'.get r = true) : QueueListWf voting' q :=
  ⟨h.depth, h.distinct, fun e he => ⟨(h.each e he).mask, (h.each e he).attempts, fun r hr => hv r ((h.each e he).voting r hr)⟩⟩

theorem QueueListWf.sublist {q' : List QueueEntry} (h : QueueListWf voting q) (hq : q'.Sublist q) : QueueListWf voting q' :=
  ⟨hq.length_le.trans h.depth, h.distinct.sublist hq, fun e he => h.each e (hq.subset he)⟩

theorem QueueListWf.nil : QueueListWf voting [] := ⟨Nat.zero_le _, List.Pairwise.nil, fun _ he => absurd he List.not_mem_nil⟩

/-- An insertion of replicas that vote keeps the queue in form (R108, R109). -/
theorem QueueListWf.insert {q' : List QueueEntry} (h : QueueListWf voting q) {block attempts : Nat} {mask : ReplicaSet}
    (hq : insertEntry q block mask attempts = some q') (hmask : mask.isEmpty = false) (hatt : attempts ≤ 2)
    (hvoting : ∀ r, mask.get r = true → voting.get r = true) : QueueListWf voting q' := by
  by_cases hany : (q.any fun e => e.block == block) = true
  · rw [insertEntry_of_present mask attempts hany] at hq
    obtain rfl := Option.some.inj hq
    have hblock (e : QueueEntry) : (if e.block == block then e.merge mask attempts else e).block = e.block := by
      split <;> rfl
    refine ⟨by simpa using h.depth, List.pairwise_map.2 (h.distinct.imp fun {x y} hxy => by rwa [hblock, hblock]), ?_⟩
    intro e he
    obtain ⟨x, hx, rfl⟩ := List.mem_map.1 he
    split
    · refine ⟨Tri.isEmpty_union_of_left (h.each x hx).mask, Nat.max_le.2 ⟨(h.each x hx).attempts, hatt⟩, fun r hr => ?_⟩
      simp only [QueueEntry.merge, Tri.get_union, Bool.or_eq_true] at hr
      exact hr.elim ((h.each x hx).voting r) (hvoting r)
    · exact h.each x hx
  · have habsent : ∀ y ∈ q, y.block ≠ block := by simpa using hany
    rw [insertEntry_of_absent mask attempts habsent] at hq
    split at hq <;> cases hq
    rename_i hroom
    refine ⟨by simpa using hroom, List.pairwise_append.2 ⟨h.distinct, List.pairwise_singleton _ _, ?_⟩, ?_⟩
    · intro x hx y hy
      obtain rfl := List.mem_singleton.1 hy
      exact habsent x hx
    · intro e he
      rcases List.mem_append.1 he with he | he
      · exact h.each e he
      · obtain rfl := List.mem_singleton.1 he
        exact ⟨hmask, hatt, hvoting⟩

/-- An entry under the departure of a replica. -/
def QueueEntry.leave (r : Replica) (chosen : QueueEntry → Bool) (e : QueueEntry) : QueueEntry :=
  if chosen e then { e with mask := e.mask.without r } else e

theorem dropReplica_eq (q : List QueueEntry) (r : Replica) (chosen : QueueEntry → Bool) :
    dropReplica q r chosen = (q.map (QueueEntry.leave r chosen)).filter fun e => !e.mask.isEmpty := rfl

theorem QueueEntry.leave_mask {r : Replica} {chosen : QueueEntry → Bool} {e : QueueEntry} {p : Replica}
    (h : (e.leave r chosen).mask.get p = true) : e.mask.get p = true ∧ (chosen e = true → p ≠ r) := by
  unfold QueueEntry.leave at h
  split at h
  · simp only [Tri.get_without, Bool.and_eq_true, decide_eq_true_eq] at h
    exact ⟨h.1, fun _ => h.2⟩
  · rename_i hc
    exact ⟨h, fun hc' => absurd hc' hc⟩

theorem QueueEntry.leave_rest (r : Replica) (chosen : QueueEntry → Bool) (e : QueueEntry) :
    (e.leave r chosen).block = e.block ∧ (e.leave r chosen).attempts = e.attempts := by
  unfold QueueEntry.leave
  split <;> exact ⟨rfl, rfl⟩

/-- A replica leaves masks, and with it perhaps the voting set where it leaves all of them (R110, R111). -/
theorem QueueListWf.drop {voting' : ReplicaSet} (h : QueueListWf voting q) (r : Replica) (chosen : QueueEntry → Bool)
    (hv : ∀ e ∈ q, ∀ p, e.mask.get p = true → (chosen e = true → p ≠ r) → voting'.get p = true) :
    QueueListWf voting' (dropReplica q r chosen) := by
  rw [dropReplica_eq]
  refine ⟨(List.length_filter_le _ _).trans (by simpa using h.depth), ?_, ?_⟩
  · refine (List.pairwise_map.2 (h.distinct.imp fun {x y} hxy => ?_)).filter _
    rw [(QueueEntry.leave_rest r chosen x).1, (QueueEntry.leave_rest r chosen y).1]
    exact hxy
  · intro e he
    obtain ⟨hmem, hmask⟩ := List.mem_filter.1 he
    obtain ⟨x, hx, rfl⟩ := List.mem_map.1 hmem
    refine ⟨by simpa using hmask, (QueueEntry.leave_rest r chosen x).2 ▸ (h.each x hx).attempts, fun p hp => ?_⟩
    have hleft := QueueEntry.leave_mask hp
    exact hv x hx p hleft.1 hleft.2

end QueueList

/-! ## The operations of a step -/

/-- Every part but the repair queue and the health monitor. -/
abbrev outsideQueue : List Part :=
  [.pins, .rt, .regions, .ports, .repair, .scrub, .copy, .records, .alerts, .session, .freeIndex, .pending]

theorem State.QueueWf.of_same {s t : State} (h : s.QueueWf) (hq : t.queue = s.queue)
    (hv : ∀ r, s.voting.get r = true → t.voting.get r = true) : t.QueueWf := by
  rw [State.queueWf_iff] at h ⊢
  rw [hq]
  exact h.mono hv

theorem queueWf_ignores : Ignores outsideQueue State.QueueWf := fun s t hk hs =>
  hs.of_same (hk.queue (by decide)) fun r hr => by rwa [hk.voting (by decide)]

/-- An operation of the health monitor that keeps the voting set. -/
theorem State.QueueWf.of_voting {s t : State} (h : s.QueueWf) {L : List Part} (hk : Keeps L s t) (hL : Part.queue ∉ L)
    (hv : t.voting = s.voting) : t.QueueWf := h.of_same (hk.queue hL) fun r hr => by rwa [hv]

theorem State.setQueue_queueWf {q : List QueueEntry} {s : State} (h : QueueListWf s.voting q) : (s.setQueue q).QueueWf := by
  rw [State.queueWf_iff]
  exact h

theorem State.insertRepair_queueWf (block : Nat) (m : ReplicaSet) (n : Nat) (s : State) (hn : n ≤ 2) (hs : s.QueueWf) :
    (s.insertRepair block m n).1.QueueWf := by
  cases hmask : (m.inter s.voting).isEmpty with
  | true => rw [State.insertRepair_of_nobody_votes hmask]; exact hs
  | false =>
    cases hq : insertEntry s.queue block (m.inter s.voting) n with
    | none => rw [State.insertRepair_of_not_stored hmask hq]; exact hs
    | some q =>
      rw [State.insertRepair_of_stored hmask hq]
      refine State.setQueue_queueWf (((State.queueWf_iff s).1 hs).insert hq hmask hn fun r hr => ?_)
      simp only [Tri.get_inter, Bool.and_eq_true] at hr
      exact hr.2

theorem State.removeRepair_queueWf (block : Nat) (r : Replica) (s : State) (hs : s.QueueWf) :
    (s.removeRepair block r).QueueWf := by
  have hlist := (State.queueWf_iff s).1 hs
  exact State.setQueue_queueWf (hlist.drop r _ fun e he p hp _ => (hlist.each e he).voting p hp)

theorem State.retireCore_queue (r : Replica) (reason : RetireReason) (s : State) :
    (s.retireCore r reason).queue = dropReplica s.queue r fun _ => true := by
  have hbefore : (State.retirePort r { s.retireAccount r reason with repair := (s.retireAccount r reason).repair.retire r }).queue =
      s.queue :=
    ((State.retirePort_keeps r _).queue (by decide)).trans ((State.retireAccount_keeps r reason s).queue (by decide))
  rw [State.retireCore_eq, State.retireFromQueue, State.setQueue_queue, hbefore]

theorem State.retireCore_queueWf (r : Replica) (reason : RetireReason) (s : State) (hs : s.QueueWf) :
    (s.retireCore r reason).QueueWf := by
  rw [State.queueWf_iff] at hs ⊢
  rw [State.retireCore_queue]
  refine hs.drop r _ fun e he p hp hne => ?_
  rw [State.retireCore_voting]
  simp [(hs.each e he).voting p hp, hne rfl]

theorem queueWf_plain : PlainKeep State.QueueWf where
  ignores := queueWf_ignores.mono (by decide)
  record := fun e s _ => queueWf_ignores.of_keeps (State.recordEvent_keeps e s) (by decide)
  event := fun c s _ _ => queueWf_ignores.of_keeps (State.raise_keeps c s) (by decide)
  insert := State.insertRepair_queueWf
  remove := State.removeRepair_queueWf
  applyCharge := fun r k s _ hs => hs.of_voting (State.applyCharge_keeps r k s) (by decide) (State.applyCharge_voting r k s)
  retireCore := State.retireCore_queueWf
  joinRebuilt := fun r n s hs => hs.of_same ((State.joinRebuilt_keeps r n s).queue (by decide)) fun _ => State.joinRebuilt_votes
  unmark := fun s => queueWf_ignores.of_keeps (State.unmark_keeps s) (by decide)
  tail := fun head rest s hq hs =>
    State.setQueue_queueWf (((State.queueWf_iff s).1 hs).sublist (hq ▸ List.sublist_cons_self head rest))
  reset := fun _ _ _ _ => (State.queueWf_iff _).2 QueueListWf.nil
  release := fun _ hs => hs.of_same rfl fun _ => id
  advance := fun n s hs => hs.of_voting (State.advance_keeps n s) (by decide) rfl
  judge := fun r b s => queueWf_ignores.of_keeps (State.judgeWrite_keeps r b s) (by decide)
  result := fun k o s => queueWf_ignores.of_keeps (State.setResult_keeps k o s) (by decide)
  restart := fun s => queueWf_ignores.of_keeps (State.restartIdle_keeps s) (by decide)
  decay := fun s hs => hs.of_voting (State.decay_keeps s) (by decide) (State.decay_voting s)
  close := fun s => queueWf_ignores.of_keeps (State.closeSession_keeps s) (by decide)

theorem State.purgeQueue_queueWf (first last : Nat) {s : State} (hs : s.QueueWf) : (s.purgeQueue first last).QueueWf :=
  State.setQueue_queueWf (((State.queueWf_iff s).1 hs).sublist List.filter_sublist)

theorem State.flush_queueWf (s : State) (_ : s.QueueWf) : (s.setQueue []).QueueWf := State.setQueue_queueWf QueueListWf.nil

theorem State.writeWord_queueWf (k : Nat) (v : Word) (s : State) (hs : s.QueueWf) : (s.writeWord k v).2.QueueWf := by
  refine State.writeWord_of_owners queueWf_ignores [20, 22, 40, 41, 42, 43, 46, 47, 49] (by decide) (fun k hk hs => ?_) k hs
  simp only [List.mem_cons, List.not_mem_nil, or_false] at hk
  rcases hk with rfl | rfl | rfl | rfl | rfl | rfl | rfl | rfl | rfl
  · exact hs.of_voting (State.writeThresholds_keeps v s) (by decide) (State.writeThresholds_voting v s)
  · exact hs.of_voting (State.writeHousekeeping_keeps v s) (by decide) (State.writeHousekeeping_voting v s)
  · exact queueWf_plain.commandRetire v hs
  · exact State.commandRebuild_keeps_of hs (fun r _ hr => queueWf_ignores.of_keeps (State.rebuildPort_keeps r _) (by decide)
      (hs.of_voting (State.startRebuild_keeps r s) (by decide) (State.startRebuild_voting hr))) v
  · exact State.commandFill_keeps_of hs (fun n _ _ => queueWf_ignores.of_keeps (State.claim_keeps _ _ _) (by decide)
      (State.purgeQueue_queueWf _ _ (queueWf_ignores.of_keeps (State.startFill_keeps n s) (by decide) hs))) v
  · exact queueWf_plain.commandCopyAbort hs
  · exact hs.of_voting (State.commandScoreClear_keeps v s) (by decide) (State.commandScoreClear_voting v s)
  · exact State.flush_queueWf s hs
  · exact State.commandSoftReset_keeps_of queueWf_plain.ignores
      (fun s hs => State.QueueWf.of_voting (queueWf_ignores.of_keeps (State.softClearAlerts_keeps s) (by decide) hs)
        (State.softResetAccounts_keeps _) (by decide) (State.softResetAccounts_voting _))
      (fun _ => queueWf_plain.copyEnd _) State.flush_queueWf
      (fun s => queueWf_ignores.of_keeps (State.softResetRecords_keeps s) (by decide))
      (fun s => queueWf_ignores.of_keeps (State.retakeConditions_keeps s) (by decide)) queueWf_plain.close hs

/-- Settles O53: the queue takes only insertions of voting replicas, and a retirement leaves every mask with the voting set. -/
theorem repairQueueInvariantKept : Obligations.RepairQueueInvariantKept := by
  unfold Obligations.RepairQueueInvariantKept
  exact fun s t hs ht => (queueWf_plain.steps State.writeWord_queueWf).step hs ht

end Sys2Proof.Machine
end

section
/-! The alert unit through every step (R179, R180, R186): the line, and the two conditions that the queue and the voting set hand. -/

namespace Sys2Proof.Machine

open Sys2Proof

/-! ## A level cause and its condition -/

/-- A level cause whose condition is the one its owner hands, a true one latched (R179, R180). -/
structure CauseState.Follows (p : Prop) (c : CauseState) : Prop where
  condition : c.condition = true ↔ p
  latched : c.condition = true → c.latch = true

theorem CauseState.setCondition_follows {c : CauseState} (h : c.condition = true → c.latch = true) (b : Bool) :
    (c.setCondition b).Follows (b = true) :=
  ⟨by rw [CauseState.setCondition_condition], CauseState.setCondition_latched b h⟩

theorem CauseState.levelAck_follows {p : Prop} {c : CauseState} (h : c.Follows p) : c.levelAck.Follows p :=
  ⟨by rw [← h.condition]; unfold CauseState.levelAck; split <;> rfl, CauseState.levelAck_latched h.latched⟩

theorem CauseState.retake_follows (b : Bool) (c : CauseState) : (c.retake b).Follows (b = true) :=
  ⟨Iff.rfl, fun hb => by simp only [CauseState.retake] at hb ⊢; simp [hb]⟩

theorem CauseState.Follows.congr {p q : Prop} {c : CauseState} (h : c.Follows p) (hpq : p ↔ q) : c.Follows q :=
  ⟨h.condition.trans hpq, h.latched⟩

theorem State.alertsWf_iff (s : State) :
    s.AlertsWf ↔ s.LineWf ∧ (s.alerts.causes.get .queueFull).Follows (s.queue.length = 32)
      ∧ (s.alerts.causes.get .degraded).Follows (s.votingCount < 3) :=
  ⟨fun h => ⟨h.line, ⟨h.queueFull, h.queueFullLatched⟩, ⟨h.degraded, h.degradedLatched⟩⟩,
    fun ⟨hl, hq, hd⟩ => ⟨hl, hq.condition, hd.condition, hq.latched, hd.latched⟩⟩

/-! ## The shared operations -/

/-- Every part but the alert unit, the queue, the health monitor and the pins. -/
abbrev outsideAlerts : List Part :=
  [.rt, .regions, .ports, .repair, .scrub, .copy, .records, .session, .freeIndex, .pending]

/-- The unit stays in form when only other causes move, and the queue's depth and the number of voters stay. -/
theorem State.AlertsWf.of_moved {L : List Cause} {s t : State} (h : s.AlertsWf) (hm : AlertsMoved L s t) (hq : .queueFull ∉ L)
    (hd : .degraded ∉ L) (hqueue : t.queue.length = s.queue.length) (hvoting : t.voting = s.voting) : t.AlertsWf := by
  obtain ⟨hline, hfull, hdegraded⟩ := (State.alertsWf_iff s).1 h
  have hcount : t.votingCount = s.votingCount := congrArg Tri.count hvoting
  rw [State.alertsWf_iff, hm.others _ hq, hm.others _ hd, hqueue, hcount]
  exact ⟨hm.line hline, hfull, hdegraded⟩

/-- An operation that only moves other causes. -/
theorem State.AlertsWf.of_alerts {L : List Cause} {s t : State} (h : s.AlertsWf) (hm : AlertsMoved L s t) (hk : Keeps [.alerts] s t)
    (hq : .queueFull ∉ L) (hd : .degraded ∉ L) : t.AlertsWf :=
  h.of_moved hm hq hd (by rw [hk.queue (by decide)]) (hk.voting (by decide))

theorem alertsWf_ignores : Ignores outsideAlerts State.AlertsWf := fun _ _ hk hs =>
  hs.of_moved (AlertsMoved.of_keeps (M := []) hk (by decide) (by decide)) (by simp) (by simp) (by rw [hk.queue (by decide)])
    (hk.voting (by decide))

theorem State.updateCause_get_of_ne {c d : Cause} (h : d ≠ c) (f : CauseState → CauseState) (s : State) :
    (s.updateCause c f).alerts.causes.get d = s.alerts.causes.get d := by
  rw [State.updateCause_get, if_neg h]

/-- The queue takes a content and hands the condition of its depth (R109). -/
theorem State.setQueue_alertsWf (q : List QueueEntry) {s : State} (hs : s.AlertsWf) : (s.setQueue q).AlertsWf := by
  obtain ⟨-, hfull, hdegraded⟩ := (State.alertsWf_iff s).1 hs
  rw [State.alertsWf_iff]
  refine ⟨State.updateCause_lineWf _ _ _, ?_, ?_⟩
  · exact (CauseState.setCondition_follows hfull.latched (q.length == 32)).congr beq_iff_eq
  · rw [(State.setQueue_moved q s).others .degraded (by decide)]
    exact hdegraded

/-- The voting set hands its condition: of DEGRADED only the latch has to have followed before. -/
theorem State.handDegraded_alertsWf {s : State} (hfull : (s.alerts.causes.get .queueFull).Follows (s.queue.length = 32))
    (hlatched : (s.alerts.causes.get .degraded).condition = true → (s.alerts.causes.get .degraded).latch = true) :
    s.handDegraded.AlertsWf := by
  rw [State.alertsWf_iff]
  refine ⟨State.updateCause_lineWf _ _ _, ?_, ?_⟩
  · rw [(State.handDegraded_moved s).others .queueFull (by decide)]
    exact hfull
  · have hget : s.handDegraded.alerts.causes.get .degraded =
        (s.alerts.causes.get .degraded).setCondition (decide (s.votingCount < 3)) := State.setCondition_get .degraded _ s
    rw [hget]
    exact (CauseState.setCondition_follows hlatched _).congr decide_eq_true_iff

/-- After changes to an account and other causes, the voting set hands its condition. -/
theorem State.AlertsWf.handDegraded {L : List Cause} {s t : State} (h : s.AlertsWf) (hm : AlertsMoved L s t)
    (hq : .queueFull ∉ L) (hd : .degraded ∉ L) (hqueue : t.queue = s.queue) : t.handDegraded.AlertsWf := by
  obtain ⟨-, hfull, hdegraded⟩ := (State.alertsWf_iff s).1 h
  refine State.handDegraded_alertsWf ?_ ?_
  · rw [hm.others _ hq, hqueue]; exact hfull
  · rw [hm.others _ hd]; exact hdegraded.latched

theorem State.retireCore_alertsWf (r : Replica) (reason : RetireReason) (s : State) (hs : s.AlertsWf) :
    (s.retireCore r reason).AlertsWf := by
  have hleft : AlertsMoved [.health r] s (if (s.account r).state = .suspect then s.suspectLeave r else s) := by
    split
    · exact State.suspectLeave_moved r s
    · exact AlertsMoved.refl _ s
  have hraised (u : State) (a : Account) (hu : AlertsMoved [.health r] s u) :
      AlertsMoved [.health r, .retire] s ((u.setAccount r a).raise .retire) :=
    ((hu.mono (by simp)).trans (State.setAccount_moved r a _ u)).trans ((State.raise_moved .retire _).mono (by simp))
  have haccount : (s.retireAccount r reason).AlertsWf := by
    unfold State.retireAccount
    refine hs.handDegraded (hraised _ _ hleft) (by simp) (by simp) ?_
    split <;> rfl
  rw [State.retireCore_eq]
  refine State.setQueue_alertsWf _ (alertsWf_ignores.of_keeps (State.retirePort_keeps r _) (by decide) ?_)
  exact alertsWf_ignores.of_keeps (Keeps.with_repair (L := [.repair]) (by decide) (Keeps.refl _ _)) (by decide) haccount

theorem State.joinRebuilt_alertsWf (r : Replica) (n : Nat) (s : State) (hs : s.AlertsWf) : (s.joinRebuilt r n).AlertsWf := by
  unfold State.joinRebuilt
  simp only
  split
  · exact hs.handDegraded (State.setAccount_moved r _ [] s) (by simp) (by simp) rfl
  · exact hs.handDegraded ((State.setAccount_moved r _ _ s).trans (State.suspectEntry_moved r _)) (by simp) (by simp) rfl

theorem State.applyCharge_moved (r : Replica) (k : ChargeKind) (s : State) : AlertsMoved [.health r] s (s.applyCharge r k) := by
  unfold State.applyCharge
  simp only
  split
  · exact (State.setAccount_moved r _ _ s).trans (State.suspectEntry_moved r _)
  · exact State.setAccount_moved r _ _ s

/-- The three causes of the accounts. -/
abbrev healthCauses : List Cause := [.health .a, .health .b, .health .c]

theorem health_mem_healthCauses (r : Replica) : [Cause.health r] ⊆ healthCauses := by cases r <;> decide

theorem State.forEach_moved {f : Replica → State → State} (h : ∀ r s, AlertsMoved [.health r] s (f r s)) (s : State) :
    AlertsMoved healthCauses s (s.forEach f) :=
  (((h .a s).mono (health_mem_healthCauses _)).trans ((h .b _).mono (health_mem_healthCauses _))).trans
    ((h .c _).mono (health_mem_healthCauses _))

theorem State.decayScore_moved (r : Replica) (s : State) : AlertsMoved [.health r] s (s.decayScore r) :=
  AlertsMoved.of_keeps (State.decayScore_keeps r s) (by decide) (by decide)

theorem State.decayClear_moved (r : Replica) (s : State) : AlertsMoved [.health r] s (s.decayClear r) := by
  unfold State.decayClear
  simp only
  split
  · exact (State.setAccount_moved r _ _ s).trans (State.suspectLeave_moved r _)
  · exact AlertsMoved.refl _ s

theorem State.retest_moved (r : Replica) (s : State) : AlertsMoved [.health r] s (s.retest r) := by
  unfold State.retest
  simp only
  split_ifs
  · exact (State.setAccount_moved r _ _ s).trans (State.suspectEntry_moved r _)
  · exact (State.setAccount_moved r _ _ s).trans (State.suspectLeave_moved r _)
  · exact AlertsMoved.refl _ s

theorem State.setAlertMode_moved (modes : Tri AlertMode) (r : Replica) (s : State) :
    AlertsMoved [.health r] s (s.setAlertMode modes r) :=
  (State.updateCause_moved (.health r) _ s).trans (State.setAccount_moved r _ _ _)

theorem State.decay_moved (s : State) :
    AlertsMoved healthCauses s ((s.restartDecay.forEach State.decayScore).forEach State.decayClear) :=
  ((AlertsMoved.of_keeps (L := [.health]) (Keeps.with_health (by decide) (Keeps.refl _ s)) (by decide) (by decide)).trans
    (State.forEach_moved State.decayScore_moved s.restartDecay)).trans (State.forEach_moved State.decayClear_moved _)

/-- An operation of the health monitor that keeps the voting set and moves the accounts' causes alone. -/
theorem State.AlertsWf.of_health {L : List Part} {s t : State} (h : s.AlertsWf) (hm : AlertsMoved healthCauses s t)
    (hk : Keeps L s t) (hL : Part.queue ∉ L) (hv : t.voting = s.voting) : t.AlertsWf :=
  h.of_moved hm (by decide) (by decide) (by rw [hk.queue hL]) hv

theorem State.recordEvent_moved (e : RecordEvent) (s : State) : AlertsMoved [.recordsLost] s (s.recordEvent e) := by
  have hrecords (l : Records) : AlertsMoved [.recordsLost] s { s with records := l } :=
    AlertsMoved.of_keeps (L := [.records]) (Keeps.with_records (by decide) (Keeps.refl _ s)) (by decide) (by decide)
  unfold State.recordEvent
  split
  · exact AlertsMoved.refl _ s
  · split
    · exact hrecords _
    · exact (hrecords _).trans (State.raise_moved .recordsLost _)

theorem State.insertRepair_keeps_of {P : State → Prop} {s : State} (hs : P s) (hset : ∀ q, P (s.setQueue q)) (block : Nat)
    (m : ReplicaSet) (n : Nat) : P (s.insertRepair block m n).1 := by
  unfold State.insertRepair
  simp only
  split
  · exact hs
  · split
    · exact hset _
    · exact hs

theorem State.afterReset_voting (straps : Straps) (levels : Tri Bool) (n : Nat) (q : List Instr) :
    (State.afterReset straps levels n q).voting = straps.present := by
  refine Tri.ext_get fun r => ?_
  rw [State.voting_get]
  have hvotes (b : Bool) : (Account.reset b).votes = b := by cases b <;> rfl
  cases r <;> exact hvotes _

theorem State.afterReset_degraded (straps : Straps) :
    ((Alerts.reset straps.present).causes.get .degraded).Follows (straps.present.count < 3) := by
  obtain ⟨a, b, c⟩ := straps.present
  cases a <;> cases b <;> cases c <;> exact ⟨by decide, by decide⟩

theorem State.afterReset_alertsWf (straps : Straps) (levels : Tri Bool) (n : Nat) (q : List Instr) :
    (State.afterReset straps levels n q).AlertsWf := by
  rw [State.alertsWf_iff, State.votingCount, State.afterReset_voting]
  exact ⟨⟨nofun, nofun⟩, ⟨⟨nofun, nofun⟩, nofun⟩, State.afterReset_degraded straps⟩

theorem State.releaseReset_alertsWf (s : State) (hs : s.AlertsWf) : s.releaseReset.AlertsWf :=
  ⟨State.refreshLine_lineWf _, hs.queueFull, hs.degraded, hs.queueFullLatched, hs.degradedLatched⟩

theorem alertsWf_plain : PlainKeep State.AlertsWf where
  ignores := alertsWf_ignores.mono (by decide)
  record := fun e s _ hs =>
    hs.of_moved (State.recordEvent_moved e s) (by decide) (by decide) (by rw [(State.recordEvent_keeps e s).queue (by decide)])
      ((State.recordEvent_keeps e s).voting (by decide))
  event := fun c s hq hd hs =>
    hs.of_alerts (State.raise_moved c s) (State.raise_keeps c s) (by simpa using hq.symm) (by simpa using hd.symm)
  insert := fun b m n _ _ hs => State.insertRepair_keeps_of hs (fun q => State.setQueue_alertsWf q hs) b m n
  remove := fun _ _ _ hs => State.setQueue_alertsWf _ hs
  applyCharge := fun r k s _ hs => hs.of_health ((State.applyCharge_moved r k s).mono (health_mem_healthCauses r))
    (State.applyCharge_keeps r k s) (by decide) (State.applyCharge_voting r k s)
  retireCore := State.retireCore_alertsWf
  joinRebuilt := State.joinRebuilt_alertsWf
  unmark := fun s => alertsWf_ignores.of_keeps (State.unmark_keeps s) (by decide)
  tail := fun _ rest _ _ hs => State.setQueue_alertsWf rest hs
  reset := State.afterReset_alertsWf
  release := State.releaseReset_alertsWf
  advance := fun n s hs =>
    hs.of_health (AlertsMoved.of_keeps (State.advance_keeps n s) (by decide) (by decide)) (State.advance_keeps n s) (by decide) rfl
  judge := fun r b s => alertsWf_ignores.of_keeps (State.judgeWrite_keeps r b s) (by decide)
  result := fun k o s => alertsWf_ignores.of_keeps (State.setResult_keeps k o s) (by decide)
  restart := fun s => alertsWf_ignores.of_keeps (State.restartIdle_keeps s) (by decide)
  decay := fun s hs => hs.of_health (State.decay_moved s) (State.decay_keeps s) (by decide) (State.decay_voting s)
  close := fun s => alertsWf_ignores.of_keeps (State.closeSession_keeps s) (by decide)

/-! ## The words of the alert unit and of the health monitor -/

/-- An acknowledge of a level cause, by R180. -/
theorem State.updateCause_levelAck_alertsWf (c : Cause) {s : State} (hs : s.AlertsWf) :
    (s.updateCause c CauseState.levelAck).AlertsWf := by
  obtain ⟨-, hfull, hdegraded⟩ := (State.alertsWf_iff s).1 hs
  rw [State.alertsWf_iff]
  refine ⟨State.updateCause_lineWf _ _ _, ?_, ?_⟩
  · rw [State.updateCause_get]
    split
    · rename_i h; rw [← h]; exact CauseState.levelAck_follows hfull
    · exact hfull
  · rw [State.updateCause_get]
    split
    · rename_i h; rw [← h]; exact CauseState.levelAck_follows hdegraded
    · exact hdegraded

theorem State.acknowledge_alertsWf (c : Cause) {s : State} (hs : s.AlertsWf) : (s.acknowledge c).AlertsWf := by
  have hother (f : CauseState → CauseState) (hq : c ≠ .queueFull) (hd : c ≠ .degraded) : (s.updateCause c f).AlertsWf :=
    hs.of_alerts (State.updateCause_moved c f s) (State.updateCause_keeps c f s) (by simpa using hq.symm) (by simpa using hd.symm)
  cases c with
  | queueFull => exact State.updateCause_levelAck_alertsWf .queueFull hs
  | degraded => exact State.updateCause_levelAck_alertsWf .degraded hs
  | _ => exact hother _ (by simp) (by simp)

theorem State.writeAlertAck_alertsWf (v : Word) {s : State} (hs : s.AlertsWf) : (s.writeAlertAck v).2.AlertsWf := by
  unfold State.writeAlertAck
  split
  · exact hs
  · refine foldl_keeps (P := State.AlertsWf) (fun s c hs => ?_) _ hs
    split
    · exact State.acknowledge_alertsWf c hs
    · exact hs

theorem State.writeAlertEnable_alertsWf (v : Word) {s : State} (hs : s.AlertsWf) : (s.writeAlertEnable v).2.AlertsWf := by
  unfold State.writeAlertEnable
  split
  · exact hs
  · exact ⟨State.refreshLine_lineWf _, hs.queueFull, hs.degraded, hs.queueFullLatched, hs.degradedLatched⟩

theorem State.writeThresholds_moved (v : Word) (s : State) : AlertsMoved healthCauses s (s.writeThresholds v).2 := by
  cases hv : (thresholdsOperand v).valid with
  | false => rw [State.writeThresholds_of_invalid hv]; exact AlertsMoved.refl _ s
  | true =>
    rw [State.writeThresholds_of_valid hv]
    exact (AlertsMoved.of_keeps (L := [.health]) (Keeps.with_health (by decide) (Keeps.refl _ s)) (by decide) (by decide)).trans
      (State.forEach_moved State.retest_moved _)

theorem State.writeHousekeeping_moved (v : Word) (s : State) : AlertsMoved healthCauses s (s.writeHousekeeping v).2 := by
  cases hv : housekeepingOperand v with
  | none => rw [State.writeHousekeeping_of_none hv]; exact AlertsMoved.refl _ s
  | some f =>
    rw [State.writeHousekeeping_of_some hv]
    have hkept : Keeps [.health, .session] s (s.housekept f) := by
      intro p hp; cases p <;> first | rfl | exact absurd hp (by decide)
    exact (AlertsMoved.of_keeps hkept (by decide) (by decide)).trans (State.forEach_moved (State.setAlertMode_moved f.modes) _)

theorem State.commandScoreClear_moved (v : Word) (s : State) : AlertsMoved healthCauses s (s.commandScoreClear v).2 := by
  cases hr : replicaOperand v with
  | none => rw [State.commandScoreClear_of_no_replica hr]; exact AlertsMoved.refl _ s
  | some r =>
    cases hv : (s.account r).votes with
    | false => rw [State.commandScoreClear_of_not_votes hr hv]; exact AlertsMoved.refl _ s
    | true =>
      obtain ⟨u, hu, hc⟩ := State.commandScoreClear_of_votes hr hv
      rw [hu]
      exact hc.moved.mono (health_mem_healthCauses r)

/-- The level conditions taken after a soft reset are those of their owners, whatever the unit held before (R188). -/
theorem State.retakeConditions_alertsWf (s : State) : s.retakeConditions.AlertsWf := by
  rw [State.alertsWf_iff, State.votingCount, (State.retakeConditions_keeps s).voting (by decide),
    (State.retakeConditions_keeps s).queue (by decide)]
  unfold State.retakeConditions
  simp only
  generalize hu : Replica.all.foldl _ s = u
  have hkept : Keeps [.alerts] s u := hu ▸ Keeps.foldl (fun _ _ => State.updateCause_keeps _ _ _) _ s
  refine ⟨State.updateCause_lineWf _ _ _, ?_, ?_⟩
  · rw [State.updateCause_get_of_ne (by decide), State.updateCause_get, if_pos rfl, hkept.queue (by decide)]
    exact (CauseState.retake_follows _ _).congr beq_iff_eq
  · rw [State.updateCause_get, if_pos rfl]
    have hcount : (u.updateCause .queueFull (CauseState.retake (u.queue.length == Config.queueDepth))).votingCount = s.votingCount :=
      hkept.votingCount (by decide)
    rw [hcount]
    exact (CauseState.retake_follows _ _).congr decide_eq_true_iff

theorem State.commandSoftReset_alertsWf (s : State) : s.commandSoftReset.2.AlertsWf := by
  rw [State.commandSoftReset_eq]
  exact alertsWf_ignores.of_keeps (State.closeSession_keeps _) (by decide) (State.retakeConditions_alertsWf _)

theorem State.writeWord_alertsWf (k : Nat) (v : Word) (s : State) (hs : s.AlertsWf) : (s.writeWord k v).2.AlertsWf := by
  refine State.writeWord_of_owners alertsWf_ignores [12, 13, 20, 22, 40, 41, 42, 43, 46, 47, 49] (by decide)
    (fun k hk hs => ?_) k hs
  simp only [List.mem_cons, List.not_mem_nil, or_false] at hk
  rcases hk with rfl | rfl | rfl | rfl | rfl | rfl | rfl | rfl | rfl | rfl | rfl
  · exact State.writeAlertAck_alertsWf v hs
  · exact State.writeAlertEnable_alertsWf v hs
  · exact hs.of_health (State.writeThresholds_moved v s) (State.writeThresholds_keeps v s) (by decide)
      (State.writeThresholds_voting v s)
  · exact hs.of_health (State.writeHousekeeping_moved v s) (State.writeHousekeeping_keeps v s) (by decide)
      (State.writeHousekeeping_voting v s)
  · exact alertsWf_plain.commandRetire v hs
  · exact State.commandRebuild_keeps_of hs (fun r _ hr => alertsWf_ignores.of_keeps (State.rebuildPort_keeps r _) (by decide)
      (hs.of_health (AlertsMoved.of_keeps (State.startRebuild_keeps r s) (by decide) (by decide)) (State.startRebuild_keeps r s)
        (by decide) (State.startRebuild_voting hr))) v
  · exact State.commandFill_keeps_of hs (fun n _ _ => alertsWf_ignores.of_keeps (State.claim_keeps _ _ _) (by decide)
      (State.setQueue_alertsWf _ (alertsWf_ignores.of_keeps (State.startFill_keeps n s) (by decide) hs))) v
  · exact alertsWf_plain.commandCopyAbort hs
  · exact hs.of_health (State.commandScoreClear_moved v s) (State.commandScoreClear_keeps v s) (by decide)
      (State.commandScoreClear_voting v s)
  · exact State.setQueue_alertsWf [] hs
  · exact State.commandSoftReset_alertsWf s

/-- Settles O54: every operation re-evaluates the line, and the queue and the voting set hand their conditions when they change. -/
theorem alertUnitInvariantKept : Obligations.AlertUnitInvariantKept := by
  unfold Obligations.AlertUnitInvariantKept
  exact fun s t hs ht => (alertsWf_plain.steps State.writeWord_alertsWf).step hs ht

end Sys2Proof.Machine
end

section
/-! Predicates about the engines' side, kept through grants, losses and releases: the operations below a decision, once for each
predicate that looks at the ports, the walker or the copy context. -/

namespace Sys2Proof.Machine

open Sys2Proof

/-! ## Grants, releases and losses -/

/-- The list of a port with the entries of an engine marked owner gone (R91). -/
def Port.markGone (e : Engine) (p : Port) : Port :=
  { p with list := p.list.map fun x => if x.op.owner == .engine e then { x with ownerGone := true } else x }

/-- The state in which an engine's entries are marked owner gone and its claim is withdrawn, before its lock is released. -/
def State.marked (e : Engine) (s : State) : State :=
  { s with ports := { s.ports with port := Tri.ofFn fun r => (s.port r).markGone e } }

theorem State.abandon_eq (e : Engine) (s : State) :
    s.abandon e = State.releaseLock e ((s.marked e).setLock e { s.lock e with claim := none }) := rfl

/-- The port of an abort that begins, its list empty (R95 step 1, R96). -/
def Port.emptied (p : Port) : Port := { p with state := .aborting, list := [], abortLimit := some Config.abortTicks }

theorem State.emptyPort_eq (r : Replica) (s : State) :
    s.emptyPort r = (s.port r).list.foldl (fun s entry => s.handOn r .lost entry) (s.setPort r (s.port r).emptied) := rfl

/-- The predicate is kept by what grants, releases and losses are made of. -/
structure GrantsKeep (P : State → Prop) : Prop where
  table : ∀ s t, Keeps [.rt] s t → P s → P t
  granted : ∀ e s, P s → P (s.engineGranted e)
  visit : ∀ n s, P s → P { s with scrub := s.scrub.endVisit n }
  op : ∀ e x s, P s → P (s.setEngineOp e x)
  emptied : ∀ r s, P s → P (s.setPort r (s.port r).emptied)
  assertAbort : ∀ r s, P s → P (s.assertAbort r)
  marked : ∀ e s, P s → P (s.marked e)

section Grants

variable {P : State → Prop} (h : GrantsKeep P)
include h

theorem GrantsKeep.setLock (e : Engine) (x : EngineLock) {s : State} (hs : P s) : P (s.setLock e x) :=
  h.table _ _ (State.setLock_keeps e x s) hs

theorem GrantsKeep.skipScrub {s : State} (hs : P s) : P s.skipScrub := h.visit _ _ (h.setLock .scrub _ hs)

theorem GrantsKeep.grantClaim (e : Engine) (block : Nat) {s : State} (hs : P s) : P (s.grantClaim e block) := by
  have hheld := h.setLock e { s.lock e with held := some block, claim := none } hs
  unfold State.grantClaim
  simp only
  refine h.granted _ _ ?_
  split
  · exact h.skipScrub (h.table _ _ (Keeps.with_rt (by decide) (Keeps.refl _ _)) hheld)
  · exact h.table _ _ (Keeps.with_rt (by decide) (Keeps.refl _ _)) hheld

theorem GrantsKeep.grantEarlier (e : Engine) (block : Nat) {s : State} (hs : P s) : P (s.grantEarlier e block) := by
  unfold State.grantEarlier
  split
  · exact h.grantClaim e block hs
  · exact hs

theorem GrantsKeep.claim (e : Engine) (block : Nat) {s : State} (hs : P s) : P (s.claim e block) := by
  unfold State.claim
  refine h.setLock _ _ ?_
  cases e with
  | repair => exact h.grantEarlier _ _ (h.grantEarlier _ _ hs)
  | copy => exact h.grantEarlier _ _ hs
  | scrub => exact hs

theorem GrantsKeep.freeBlock (block : Nat) {s : State} (hs : P s) : P (s.freeBlock block) := by
  unfold State.freeBlock
  split_ifs
  · exact h.grantClaim _ _ hs
  · exact h.grantClaim _ _ hs
  · exact h.grantClaim _ _ hs
  · exact h.table _ _ (State.promote_keeps block s) hs

theorem GrantsKeep.releaseLock (e : Engine) {s : State} (hs : P s) : P (s.releaseLock e) := by
  unfold State.releaseLock
  split
  · exact hs
  · split
    · exact h.setLock _ _ hs
    · exact h.freeBlock _ (h.setLock _ _ hs)

theorem GrantsKeep.abandon (e : Engine) {s : State} (hs : P s) : P (s.abandon e) := by
  rw [State.abandon_eq]
  exact h.releaseLock e (h.setLock e _ (h.marked e s hs))

theorem GrantsKeep.goneLeft (e : Engine) (block : Nat) {s : State} (hs : P s) : P (s.goneLeft e block) := by
  unfold State.goneLeft
  split
  · exact h.freeBlock _ (h.setLock _ _ hs)
  · exact hs

theorem GrantsKeep.handOn (r : Replica) (x : OpAnswer) (entry : IssueEntry) {s : State} (hs : P s) : P (s.handOn r x entry) := by
  unfold State.handOn
  split
  · exact h.table _ _ (State.setSlot_keeps _ _ _) hs
  · split
    · exact h.goneLeft _ _ hs
    · exact h.op _ _ _ hs

theorem GrantsKeep.emptyPort (r : Replica) {s : State} (hs : P s) : P (s.emptyPort r) := by
  rw [State.emptyPort_eq]
  exact foldl_keeps (fun s entry => h.handOn r .lost entry) _ (h.emptied r s hs)

theorem GrantsKeep.beginAbort (r : Replica) {s : State} (hs : P s) : P (s.beginAbort r) := h.assertAbort r _ (h.emptyPort r hs)

theorem GrantsKeep.retirePort (r : Replica) {s : State} (hs : P s) : P (s.retirePort r) := by
  unfold State.retirePort
  split
  · exact h.beginAbort r hs
  · exact hs
  · exact hs

theorem GrantsKeep.rebuildPort (r : Replica) {s : State} (hs : P s) : P (s.rebuildPort r) := by
  unfold State.rebuildPort
  split
  · exact h.beginAbort r hs
  · exact hs
  · exact hs

end Grants

/-! ## Decisions and steps -/

/-- The parts that a predicate about the ports, the walker or the copy context does not look at. -/
abbrev outsideEngines : List Part :=
  [.pins, .rt, .regions, .queue, .repair, .records, .alerts, .session, .freeIndex, .pending]

/-- The copy engine at another block, step or op of the same copy. -/
def Copy.SameCopy (c d : Copy) : Prop := d.kind = c.kind ∧ d.state = c.state

theorem Copy.SameCopy.of_eq {c d : Copy} (h : d = c) : c.SameCopy d := h ▸ ⟨rfl, rfl⟩

/-- The walker at another place of its visit: its interval stays, and its pass count stays or wraps. -/
def Scrub.SameWalk (w x : Scrub) : Prop := x.interval = w.interval ∧ (x.passCount = w.passCount ∨ x.passCount = wrap16 w.passCount)

theorem Scrub.endVisit_sameWalk (w : Scrub) (n : Nat) : w.SameWalk (w.endVisit n) := by
  refine ⟨rfl, ?_⟩
  simp only [Scrub.endVisit]
  split
  · exact .inl rfl
  · exact .inr rfl

/-- The operations that matter to a predicate about the ports, the walker or the copy context. -/
structure EngineSideKeep (P : State → Prop) : Prop where
  ignores : Ignores outsideEngines P
  copy : ∀ s c, s.copy.SameCopy c → P s → P { s with copy := c }
  scrub : ∀ s w, s.scrub.SameWalk w → P s → P { s with scrub := w }
  applyCharge : ∀ r k s, P s → P (s.applyCharge r k)
  retireCore : ∀ r reason s, (s.account r).state ≠ .rebuilding → P s → P (s.retireCore r reason)
  copyEnd : ∀ o s, P s → P (s.copyEnd o)
  emptied : ∀ r s, P s → P (s.setPort r (s.port r).emptied)
  portMoved : ∀ r p s, p.state = (s.port r).state → p.abortLimit = (s.port r).abortLimit →
    ((s.port r).list = [] → p.list = []) → P s → P (s.setPort r p)
  marked : ∀ e s, P s → P (s.marked e)
  issued : ∀ s t, Keeps [.ports] s t → t.ports.replyTimeout = s.ports.replyTimeout → t.ports.runCount ≤ 16 ∨
      t.ports.runCount = s.ports.runCount → (∀ r, (t.port r).state = (s.port r).state ∧ (t.port r).abortLimit = (s.port r).abortLimit
        ∧ ((s.port r).state ≠ .ready → (t.port r).list = (s.port r).list)) → P s → P t
  reset : ∀ straps levels n q, P (State.afterReset straps levels n q)
  advance : ∀ n s, P s → P (s.advance n)
  endAbort : ∀ r s, (s.port r).state = .aborting → P s → P (s.endAbort r)
  running : ∀ s r, s.copy.state = .starting → s.rebuildTarget = some r → P s →
    P { s with copy := { s.copy with state := .running, step := .claim } }
  portOff : ∀ r s, (s.port r).state = .aborting → P s → P (s.portOff r)
  decay : ∀ s, P s → P ((s.restartDecay.forEach State.decayScore).forEach State.decayClear)

theorem State.issue_port (op : Op) (named : ReplicaSet) (s : State) (r : Replica) :
    (s.issue op named).port r =
      if named.get r && (s.port r).state == .ready then { s.port r with list := (s.port r).list ++ [s.entry op] } else s.port r := by
  simp only [State.issue, State.port, Tri.get_ofFn]
  rfl

theorem acceptFirst_eq_nil {l : List IssueEntry} (hl : l = []) : acceptFirst l = [] := by rw [hl]; rfl

section EngineSide

variable {P : State → Prop} (h : EngineSideKeep P)
include h

theorem EngineSideKeep.frame {L : List Part} {s t : State} (hk : Keeps L s t) (hL : L ⊆ outsideEngines) (hs : P s) : P t :=
  h.ignores.of_keeps hk hL hs

theorem EngineSideKeep.repair (x : Repair) {s : State} (hs : P s) : P { s with repair := x } :=
  h.frame (Keeps.with_repair (L := [.repair]) (by decide) (Keeps.refl _ s)) (by decide) hs

theorem EngineSideKeep.setEngineOp (e : Engine) (x : OpStage) {s : State} (hs : P s) : P (s.setEngineOp e x) := by
  cases e with
  | repair => exact h.repair _ hs
  | copy => exact h.copy _ _ ⟨rfl, rfl⟩ hs
  | scrub => exact h.scrub _ _ ⟨rfl, .inl rfl⟩ hs

theorem EngineSideKeep.engineGranted (e : Engine) {s : State} (hs : P s) : P (s.engineGranted e) := by
  cases e with
  | repair => exact h.repair _ hs
  | scrub => exact h.scrub _ _ ⟨rfl, .inl rfl⟩ hs
  | copy =>
    unfold State.engineGranted
    simp only
    split <;> exact h.copy _ _ ⟨rfl, rfl⟩ hs

theorem EngineSideKeep.grants : GrantsKeep P where
  table := fun _ _ hk => h.frame hk (by decide)
  granted := fun e _ => h.engineGranted e
  visit := fun n s => h.scrub _ _ (Scrub.endVisit_sameWalk s.scrub n)
  op := fun e x _ => h.setEngineOp e x
  emptied := h.emptied
  assertAbort := fun r s => h.portMoved r _ s rfl rfl id
  marked := h.marked

theorem EngineSideKeep.retire (r : Replica) (reason : RetireReason) {s : State} (hr : (s.account r).state ≠ .rebuilding)
    (hs : P s) : P (s.retire r reason) := by
  unfold State.retire
  simp only
  split
  · exact h.copyEnd _ _ (h.retireCore _ _ _ hr hs)
  · exact h.retireCore _ _ _ hr hs

theorem EngineSideKeep.charge (r : Replica) (k : ChargeKind) {s : State} (hs : P s) : P (s.charge r k) := by
  unfold State.charge
  split
  · unfold State.autoRetire
    simp only
    split
    · rename_i hretire
      exact h.retire r _ (by rw [hretire.1]; decide) (h.applyCharge r k s hs)
    · exact h.applyCharge r k s hs
  · exact hs

theorem EngineSideKeep.reports : ReportsKeep P where
  record := fun e s _ => h.frame (State.recordEvent_keeps e s) (by decide)
  dataLoss := fun s => h.frame (State.raise_keeps .dataLoss s) (by decide)
  insert := fun b m n s _ => h.frame (State.insertRepair_keeps b m n s) (by decide)
  charge := fun r k _ => h.charge r k

theorem EngineSideKeep.targetFailure (r : Replica) {s : State} (hs : P s) : P (s.targetFailure r) := by
  unfold State.targetFailure
  split
  · exact h.copyEnd _ _ hs
  · exact hs

theorem EngineSideKeep.slotDecisions : SlotDecisionsKeep P where
  reports := h.reports
  remove := fun b r s => h.frame (State.removeRepair_keeps b r s) (by decide)
  failure := fun r _ => h.targetFailure r
  table := fun _ _ hk _ => h.frame hk (by decide)
  free := fun b _ => h.grants.freeBlock b

theorem EngineSideKeep.copyAdvance {s : State} (hs : P s) : P s.copyAdvance := by
  unfold State.copyAdvance
  simp only
  split
  · exact h.copyEnd _ _ (h.copy _ _ ⟨rfl, rfl⟩ hs)
  · exact h.grants.claim _ _ (h.grants.releaseLock _ (h.copy _ _ ⟨rfl, rfl⟩ hs))

theorem EngineSideKeep.endRepair {s : State} (hs : P s) : P s.endRepair := h.grants.releaseLock _ (h.repair _ hs)

theorem EngineSideKeep.endScrubRead {s : State} (hs : P s) : P s.endScrubRead :=
  h.scrub _ _ (Scrub.endVisit_sameWalk _ _) (h.grants.releaseLock .scrub (h.setEngineOp .scrub .none hs))

theorem EngineSideKeep.decideFor (d : Decider) {s : State} (hs : P s) : P (s.decideFor d) := by
  cases d with
  | slot i => exact h.slotDecisions.decideSlot i hs
  | repair =>
    exact State.decideRepair_keeps_of h.reports (fun r _ => h.targetFailure r) (fun _ => h.endRepair)
      (fun _ _ _ => h.repair _) (fun _ _ hs _ => h.repair _ hs) (fun _ => h.repair _) (fun _ => id) hs
  | copy =>
    exact State.decideCopy_keeps_of h.reports (fun _ => h.copyAdvance) (fun s => h.copyEnd _ s) (fun s _ => h.copy s _ ⟨rfl, rfl⟩)
      (fun s _ _ => h.copy s _ ⟨rfl, rfl⟩) (fun _ => id) hs
  | scrub => exact State.decideScrub_keeps_of h.reports (fun _ => h.endScrubRead) (fun _ => id) hs

theorem EngineSideKeep.settle {s : State} (hs : P s) : P s.settle :=
  State.settle_keeps_of (fun d _ _ => h.decideFor d) (fun s n => h.frame (State.with_freeIndex_keeps s n) (by decide)) hs

theorem EngineSideKeep.declareDead (r : Replica) {s : State} (hs : P s) : P (s.declareDead r) := by
  unfold State.declareDead
  split
  · rename_i hstate; exact h.retire r _ (by rw [hstate]; decide) hs
  · rename_i hstate; exact h.retire r _ (by rw [hstate]; decide) hs
  · exact h.targetFailure r hs
  · exact hs

theorem EngineSideKeep.issue {s t : State} (op : Op) (named : ReplicaSet) (hk : Keeps [.ports] s t)
    (hreply : t.ports.replyTimeout = s.ports.replyTimeout) (hrun : t.ports.runCount ≤ 16 ∨ t.ports.runCount = s.ports.runCount)
    (hport : ∀ r, t.port r = (s.issue op named).port r) (hs : P s) : P t := by
  refine h.issued s t hk hreply hrun (fun r => ?_) hs
  rw [hport, State.issue_port]
  split
  · rename_i hready
    simp only [Bool.and_eq_true, beq_iff_eq] at hready
    exact ⟨rfl, rfl, fun hn => absurd hready.2 hn⟩
  · exact ⟨rfl, rfl, fun _ => rfl⟩

theorem EngineSideKeep.scrubExpiry {s : State} (hs : P s) : P s.scrubExpiry := by
  have hpause (reason : PauseReason) : P { s with scrub := s.scrub.pause reason } := h.scrub _ _ ⟨rfl, .inl rfl⟩ hs
  have hchosen (w : Scrub) (hw : s.scrub.choose s.regions s.spanBlocks = some w) : s.scrub.SameWalk w := by
    unfold Scrub.choose at hw
    split at hw
    · cases hw; exact ⟨rfl, .inl rfl⟩
    · obtain ⟨b, -, rfl⟩ := Option.map_eq_some_iff.1 hw
      exact ⟨rfl, .inr rfl⟩
  unfold State.scrubExpiry
  split_ifs
  · exact hpause _
  · exact hpause _
  · split
    · exact hpause _
    · rename_i w hw
      unfold State.scrubClaim
      simp only
      split
      · exact h.grants.skipScrub (h.scrub _ _ (hchosen w hw) hs)
      · exact h.grants.claim _ _ (h.scrub _ _ (hchosen w hw) hs)

theorem EngineSideKeep.targetUp (r : Replica) {s : State} (hs : P s) : P (s.targetUp r) := by
  unfold State.targetUp
  split
  · rename_i hup
    exact h.grants.claim _ _ (h.running s r hup.1 hup.2 hs)
  · exact hs

/-- Such a predicate is kept by every operation of a step. -/
theorem EngineSideKeep.steps (hwrite : ∀ k v s, P s → P (s.writeWord k v).2) : StepsKeep P where
  reports := h.reports
  counters := fun _ _ hk => h.frame hk (by decide)
  table := fun _ _ hk _ => h.frame hk (by decide)
  reset := h.reset
  release := fun s => h.frame (t := s.releaseReset) (L := [.pins, .alerts])
    (by intro p hp; cases p <;> first | rfl | exact absurd hp (by decide)) (by decide)
  advance := h.advance
  judge := fun r b s => h.frame (State.judgeWrite_keeps r b s) (by decide)
  result := fun k o s => h.frame (State.setResult_keeps k o s) (by decide)
  restart := fun s => h.frame (State.restartIdle_keeps s) (by decide)
  write := hwrite
  settle := fun _ => h.settle
  issueSlot := fun i sl named s => by
    refine h.issue (s := s) (t := s.countUpstream.issue (sl.op i) named) (sl.op i) named
      ((State.countUpstream_keeps s).trans (State.issue_keeps _ named _)) rfl (.inl ?_) fun _ => rfl
    change (if s.topEngine.isSome then min (s.ports.runCount + 1) 16 else 0) ≤ 16
    split
    · exact Nat.min_le_right _ _
    · exact Nat.zero_le _
  issueEngine := fun e op named s _ _ _ hs => h.setEngineOp e _
    (h.issue op named (Keeps.with_ports (t := s.issue op named) (by decide) (State.issue_keeps op named s)) rfl
      (.inl (Nat.zero_le _)) (fun _ => rfl) hs)
  repairTarget := fun _ _ => h.repair _
  grantClaim := fun e b _ _ _ => h.grants.grantClaim e b
  skipScrub := fun _ _ _ => h.grants.skipScrub
  take := fun head rest s _ _ hs => h.grants.claim _ _ (h.frame (State.headTaken_keeps head rest s) (by decide) hs)
  bankAccept := fun r s _ => h.portMoved r _ s rfl rfl acceptFirst_eq_nil
  answer := fun r x head rest s _ hlist hs =>
    h.grants.handOn r _ head (h.portMoved r _ s rfl rfl (fun hn => by rw [hlist] at hn; cases hn) hs)
  emptyPort := fun r _ => h.grants.emptyPort r
  assertAbort := h.grants.assertAbort
  abortLevel := fun r _ s => h.portMoved r _ s rfl rfl id
  endAbort := h.endAbort
  targetUp := fun r _ => h.targetUp r
  portOff := h.portOff
  declareDead := fun r _ => h.declareDead r
  decay := h.decay
  scrubExpiry := fun _ _ => h.scrubExpiry
  sessionExpiry := fun s hs =>
    h.frame (State.raise_keeps _ _) (by decide) (h.frame (State.closeSession_keeps s) (by decide) hs)

theorem EngineSideKeep.commandRetire (v : Word) {s : State} (hs : P s) : P (s.commandRetire v).2 := by
  unfold State.commandRetire
  split
  · exact hs
  · rename_i r _
    split
    · exact hs
    · rename_i hvotes
      refine h.retire r _ (fun hr => hvotes ?_) hs
      simp [Account.votes, hr]

theorem EngineSideKeep.commandCopyAbort {s : State} (hs : P s) : P s.commandCopyAbort.2 := by
  unfold State.commandCopyAbort
  split
  · exact hs
  · exact h.copyEnd .abortedCommand s hs

theorem EngineSideKeep.commandFill (hstart : ∀ n s, s.copy.state = .idle → P s → P (s.startFill n)) (v : Word) {s : State}
    (hs : P s) : P (s.commandFill v).2 :=
  State.commandFill_keeps_of hs (fun n hidle _ => h.grants.claim _ _
    (h.frame (State.purgeQueue_keeps _ _ _) (by decide) (hstart n s hidle hs))) v

theorem EngineSideKeep.softResetCopy {s : State} (hs : P s) : P s.softResetCopy := by
  unfold State.softResetCopy
  split
  · exact hs
  · exact h.copyEnd _ _ hs

theorem EngineSideKeep.commandSoftReset (hclear : ∀ s, P s → P s.softClearAlerts.softResetAccounts) {s : State} (hs : P s) :
    P s.commandSoftReset.2 := by
  have hrepair : P s.softClearAlerts.softResetAccounts.softResetCopy.softResetRepair :=
    h.repair _ (h.grants.abandon .repair (h.frame (State.setQueue_keeps [] _) (by decide) (h.softResetCopy (hclear s hs))))
  have hscrub := h.scrub _ (Scrub.softReset _) ⟨rfl, .inl rfl⟩ (h.grants.abandon .scrub hrepair)
  rw [State.commandSoftReset_eq]
  exact h.frame (State.closeSession_keeps _) (by decide) (h.frame (State.retakeConditions_keeps _) (by decide)
    (h.frame (State.softResetRecords_keeps _) (by decide) hscrub))

end EngineSide

end Sys2Proof.Machine
end

section
/-! The rebuild of a replica and its account through every step (R16), and the replica ports with the arbiter and the walker's
settings (R86, R92, R104, R129, R130). -/

namespace Sys2Proof.Machine

open Sys2Proof

/-! ## What the end of a copy finds -/

theorem sameCopy_grants (c : Copy) : GrantsKeep fun t => c.SameCopy t.copy where
  table := fun _ _ hk hs => by simpa only [hk.copy (by decide)] using hs
  granted := fun e s hs => by
    cases e with
    | repair => exact hs
    | scrub => exact hs
    | copy =>
      unfold State.engineGranted
      simp only
      split <;> exact hs
  visit := fun _ _ => id
  op := fun e _ _ hs => by cases e <;> exact hs
  emptied := fun _ _ => id
  assertAbort := fun _ _ => id
  marked := fun _ _ => id

theorem State.copyStopped_sameCopy (o : CopyOutcome) (s : State) : (s.copy.ended o).SameCopy (s.copyStopped o).copy :=
  (sameCopy_grants (s.copy.ended o)).abandon .copy ⟨rfl, rfl⟩

theorem State.retireCore_sameCopy (r : Replica) (reason : RetireReason) (s : State) :
    s.copy.SameCopy (s.retireCore r reason).copy := by
  rw [State.retireCore_eq, (State.retireFromQueue_keeps r _).copy (by decide)]
  refine (sameCopy_grants s.copy).retirePort r ?_
  exact Copy.SameCopy.of_eq ((State.retireAccount_keeps r reason s).copy (by decide))

theorem State.rebuildTarget_of_sameCopy {s t : State} (h : s.copy.SameCopy t.copy) : t.rebuildTarget = s.rebuildTarget := by
  simp only [State.rebuildTarget, h.1, h.2]

theorem State.rebuildTarget_of_idle {s : State} (h : s.copy.state = .idle) : s.rebuildTarget = none := by
  unfold State.rebuildTarget
  rw [h]
  split <;> first | rfl | simp_all

theorem State.kind_of_rebuildTarget {s : State} {r : Replica} (h : s.rebuildTarget = some r) : s.copy.kind = .rebuild r := by
  unfold State.rebuildTarget at h
  split at h <;> simp_all

/-! ## The rebuild target's account (R16) -/

/-- The parts that say nothing about a rebuild. -/
abbrev outsideRebuild : List Part :=
  [.pins, .rt, .regions, .ports, .queue, .repair, .scrub, .records, .alerts, .session, .freeIndex, .pending]

/-- The same replicas are REBUILDING, and the same replica is the rebuild target. -/
structure SameRebuild (s t : State) : Prop where
  account : ∀ r, (t.account r).state = .rebuilding ↔ (s.account r).state = .rebuilding
  target : t.rebuildTarget = s.rebuildTarget

theorem State.RebuildWf.of_same {s t : State} (hs : s.RebuildWf) (h : SameRebuild s t) : t.RebuildWf := fun r => by
  rw [h.account, h.target]
  exact hs r

theorem rebuildWf_ignores : Ignores outsideRebuild State.RebuildWf := fun s t hk hs =>
  hs.of_same ⟨fun r => by rw [hk.account (by decide)], hk.rebuildTarget (by decide)⟩

/-- With no copy in progress nobody is REBUILDING. -/
theorem State.rebuildWf_of_idle {s : State} (hidle : s.copy.state = .idle) (h : ∀ r, (s.account r).state ≠ .rebuilding) :
    s.RebuildWf := fun r => by
  rw [State.rebuildTarget_of_idle hidle]
  exact ⟨fun hr => absurd hr (h r), nofun⟩

theorem HealthMoved.sameRebuild {r : Replica} {s t : State} (h : HealthMoved r s t) (hcopy : s.copy.SameCopy t.copy)
    (hr : (t.account r).state = .rebuilding ↔ (s.account r).state = .rebuilding) : SameRebuild s t where
  account := fun q => by
    by_cases hq : q = r
    · rw [hq, hr]
    · rw [h.others q hq]
  target := State.rebuildTarget_of_sameCopy hcopy

theorem State.applyCharge_sameRebuild (r : Replica) (k : ChargeKind) (s : State) : SameRebuild s (s.applyCharge r k) := by
  refine (State.applyCharge_healthMoved r k s).sameRebuild
    (Copy.SameCopy.of_eq ((State.applyCharge_keeps r k s).copy (by decide))) ?_
  by_cases h : (s.account r).state = .healthy ∧ s.health.thresholds.suspectAt ≤ s.chargedScore r k
  · rw [State.applyCharge_of_crossing h.1 h.2, State.suspectEntry_account, State.account_setAccount_self, h.1]
    exact ⟨nofun, nofun⟩
  · rw [State.applyCharge_of_not_crossing h, State.account_setAccount_self]

theorem State.retireCore_sameRebuild {r : Replica} {s : State} (reason : RetireReason)
    (hr : (s.account r).state ≠ .rebuilding) : SameRebuild s (s.retireCore r reason) := by
  refine (State.retireCore_healthMoved r reason s).sameRebuild (State.retireCore_sameCopy r reason s) ?_
  rw [State.retireCore_account_self]
  exact ⟨nofun, fun h => absurd h hr⟩

/-- Every end of a copy leaves nobody REBUILDING (R157, R17, R18). -/
theorem State.copyClosed_rebuildWf (o : CopyOutcome) {s : State} (hs : s.RebuildWf) : (s.copyClosed o).RebuildWf := by
  have hstopped := State.copyStopped_sameCopy o s
  have haccount (q : Replica) : ((s.copyStopped o).account q) = s.account q := (State.copyStopped_keeps o s).account (by decide) q
  have hothers {q : Replica} (hq : s.copy.kind ≠ .rebuild q) : (s.account q).state ≠ .rebuilding := fun h =>
    hq (State.kind_of_rebuildTarget ((hs q).1 h))
  have hmoved {r : Replica} {t : State} (hkind : s.copy.kind = .rebuild r) (ht : HealthMoved r (s.copyStopped o) t)
      (hcopy : (s.copyStopped o).copy.SameCopy t.copy) (hr : (t.account r).state ≠ .rebuilding) : t.RebuildWf := by
    refine State.rebuildWf_of_idle (hcopy.2.trans hstopped.2) fun q => ?_
    by_cases hq : q = r
    · exact hq ▸ hr
    · rw [ht.others q hq, haccount]
      exact hothers (by rw [hkind]; exact fun hn => hq (CopyKind.rebuild.inj hn).symm)
  refine rebuildWf_ignores.of_keeps (State.raise_keeps .copyDone _) (by decide) ?_
  rw [hstopped.1]
  unfold State.copyHandOver
  split
  · rename_i hkind
    exact State.rebuildWf_of_idle hstopped.2 fun q => by rw [haccount]; exact hothers (hkind ▸ nofun)
  · rename_i hkind
    exact State.rebuildWf_of_idle hstopped.2 fun q => (haccount q).symm ▸ hothers (hkind ▸ nofun)
  · rename_i r hkind
    split
    · refine hmoved hkind (State.joinRebuilt_healthMoved _ _ _)
        (Copy.SameCopy.of_eq ((State.joinRebuilt_keeps _ _ _).copy (by decide))) ?_
      rw [State.joinRebuilt_account_self, State.joinedAccount]
      split <;> nofun
    · refine hmoved hkind (State.retireCore_healthMoved _ _ _) (State.retireCore_sameCopy _ _ _) ?_
      rw [State.retireCore_account_self]
      nofun

theorem State.copyEnd_rebuildWf (o : CopyOutcome) (s : State) (hs : s.RebuildWf) : (s.copyEnd o).RebuildWf := by
  rw [State.copyEnd_eq]
  split
  · exact State.copyClosed_rebuildWf o hs
  · exact rebuildWf_ignores.of_keeps (State.settleRunCount_keeps _) (by decide) (State.copyClosed_rebuildWf o hs)

theorem AccountOp.forEach_sameRebuild {f : Replica → State → State} {g : Replica → Thresholds → Account → Account}
    (h : AccountOp f g) (hg : ∀ r t a, (g r t a).state = .rebuilding ↔ a.state = .rebuilding) {s : State}
    (hk : Keeps [.health, .alerts] s (s.forEach f)) : SameRebuild s (s.forEach f) :=
  ⟨fun r => by rw [h.forEach_account, hg], hk.rebuildTarget (by decide)⟩

theorem Account.decayed_rebuilding (a : Account) : a.decayed.state = .rebuilding ↔ a.state = .rebuilding := by
  unfold Account.decayed
  split <;> exact Iff.rfl

theorem Account.cleared_rebuilding (t : Thresholds) (a : Account) : (a.cleared t).state = .rebuilding ↔ a.state = .rebuilding := by
  unfold Account.cleared
  split
  · rename_i h; rw [h.1]; exact ⟨nofun, nofun⟩
  · exact Iff.rfl

theorem Account.retested_rebuilding (t : Thresholds) (a : Account) :
    (a.retested t).state = .rebuilding ↔ a.state = .rebuilding := by
  unfold Account.retested
  split
  · rename_i h; rw [h.1]; exact ⟨nofun, nofun⟩
  · exact Account.cleared_rebuilding t a

theorem Account.softReset_rebuilding (a : Account) : a.softReset.state = .rebuilding ↔ a.state = .rebuilding := by
  unfold Account.softReset
  split
  · rename_i h; rw [h]
  · rename_i h; rw [h]; exact ⟨nofun, nofun⟩
  · exact Iff.rfl
  · exact Iff.rfl

theorem State.decay_rebuildWf (s : State) (hs : s.RebuildWf) :
    ((s.restartDecay.forEach State.decayScore).forEach State.decayClear).RebuildWf := by
  have hscores : (s.restartDecay.forEach State.decayScore).RebuildWf :=
    State.RebuildWf.of_same (s := s.restartDecay) hs (decayScore_accountOp.forEach_sameRebuild
      (fun _ _ => Account.decayed_rebuilding) (State.forEach_keeps (fun r s => (State.decayScore_keeps r s).mono (by decide)) _))
  exact hscores.of_same (decayClear_accountOp.forEach_sameRebuild (fun _ => Account.cleared_rebuilding)
    (State.forEach_keeps State.decayClear_keeps _))

theorem Account.reset_not_rebuilding (present : Bool) : (Account.reset present).state ≠ .rebuilding := by
  cases present <;> decide

theorem State.afterReset_rebuildWf (straps : Straps) (levels : Tri Bool) (n : Nat) (q : List Instr) :
    (State.afterReset straps levels n q).RebuildWf :=
  State.rebuildWf_of_idle rfl fun r => by cases r <;> exact Account.reset_not_rebuilding _

theorem State.writeThresholds_sameRebuild (v : Word) (s : State) : SameRebuild s (s.writeThresholds v).2 := by
  cases hv : (thresholdsOperand v).valid with
  | false => rw [State.writeThresholds_of_invalid hv]; exact ⟨fun _ => Iff.rfl, rfl⟩
  | true =>
    refine ⟨fun r => ?_, (State.writeThresholds_keeps v s).rebuildTarget (by decide)⟩
    rw [State.writeThresholds_of_valid hv, retest_accountOp.forEach_account, Account.retested_rebuilding]
    rfl

theorem State.writeHousekeeping_sameRebuild (v : Word) (s : State) : SameRebuild s (s.writeHousekeeping v).2 := by
  cases hv : housekeepingOperand v with
  | none => rw [State.writeHousekeeping_of_none hv]; exact ⟨fun _ => Iff.rfl, rfl⟩
  | some f =>
    refine ⟨fun r => ?_, (State.writeHousekeeping_keeps v s).rebuildTarget (by decide)⟩
    rw [State.writeHousekeeping_of_some hv, (setAlertMode_accountOp _).forEach_account]
    exact Iff.rfl

theorem State.commandScoreClear_sameRebuild (v : Word) (s : State) : SameRebuild s (s.commandScoreClear v).2 := by
  cases hr : replicaOperand v with
  | none => rw [State.commandScoreClear_of_no_replica hr]; exact ⟨fun _ => Iff.rfl, rfl⟩
  | some r =>
    cases hv : (s.account r).votes with
    | false => rw [State.commandScoreClear_of_not_votes hr hv]; exact ⟨fun _ => Iff.rfl, rfl⟩
    | true =>
      obtain ⟨u, hu, hc⟩ := State.commandScoreClear_of_votes hr hv
      rw [hu]
      refine hc.health.sameRebuild (Copy.SameCopy.of_eq (hc.keeps.copy (by decide))) ?_
      rw [hc.account]
      exact ⟨nofun, fun h => absurd hv (by simp [Account.votes, h])⟩

/-- REBUILD makes its target REBUILDING and the rebuild target at once (R16). -/
theorem State.startRebuild_rebuildWf {r : Replica} {s : State} (hidle : s.copy.state = .idle) (hs : s.RebuildWf) :
    (s.startRebuild r).RebuildWf := fun q => by
  have htarget : (s.startRebuild r).rebuildTarget = some r := rfl
  rw [htarget]
  by_cases hq : q = r
  · rw [hq, State.startRebuild_account_self]
    exact ⟨fun _ => rfl, fun _ => rfl⟩
  · rw [(State.startRebuild_healthMoved r s).others q hq, hs q, State.rebuildTarget_of_idle hidle]
    exact ⟨nofun, fun h => absurd (Option.some.inj h).symm hq⟩

theorem State.startFill_rebuildWf (n : RegionId) (s : State) (hidle : s.copy.state = .idle) (hs : s.RebuildWf) :
    (s.startFill n).RebuildWf :=
  hs.of_same ⟨fun _ => Iff.rfl, (rfl : (s.startFill n).rebuildTarget = none).trans (State.rebuildTarget_of_idle hidle).symm⟩

theorem State.softResetAccounts_rebuildWf (s : State) (hs : s.RebuildWf) : s.softClearAlerts.softResetAccounts.RebuildWf := by
  have hcleared : s.softClearAlerts.RebuildWf := rebuildWf_ignores.of_keeps (State.softClearAlerts_keeps s) (by decide) hs
  refine hcleared.of_same ⟨fun r => ?_, (State.softResetAccounts_keeps _).rebuildTarget (by decide)⟩
  rw [State.softResetAccounts_account, Account.softReset_rebuilding]

theorem rebuildWf_engineSide : EngineSideKeep State.RebuildWf where
  ignores := rebuildWf_ignores.mono (by decide)
  copy := fun s c hc hs => hs.of_same ⟨fun _ => Iff.rfl, State.rebuildTarget_of_sameCopy (t := { s with copy := c }) hc⟩
  scrub := fun s w _ => rebuildWf_ignores.of_keeps (Keeps.with_scrub (L := [.scrub]) (by decide) (Keeps.refl _ s)) (by decide)
  applyCharge := fun r k s hs => hs.of_same (State.applyCharge_sameRebuild r k s)
  retireCore := fun _ reason _ hr hs => hs.of_same (State.retireCore_sameRebuild reason hr)
  copyEnd := State.copyEnd_rebuildWf
  emptied := fun r s => rebuildWf_ignores.of_keeps (State.setPort_keeps r _ s) (by decide)
  portMoved := fun r p s _ _ _ => rebuildWf_ignores.of_keeps (State.setPort_keeps r p s) (by decide)
  marked := fun e s => rebuildWf_ignores.of_keeps (t := s.marked e) (Keeps.with_ports (L := [.ports]) (by decide) (Keeps.refl _ s))
    (by decide)
  issued := fun _ _ hk _ _ _ => rebuildWf_ignores.of_keeps hk (by decide)
  reset := State.afterReset_rebuildWf
  advance := fun _ _ hs => hs.of_same ⟨fun _ => Iff.rfl, rfl⟩
  endAbort := fun r s _ => rebuildWf_ignores.of_keeps (State.setPort_keeps r _ s) (by decide)
  running := fun s r hstate htarget hs => hs.of_same ⟨fun _ => Iff.rfl, by
    simp [State.rebuildTarget, State.kind_of_rebuildTarget htarget, hstate]⟩
  portOff := fun r s _ => rebuildWf_ignores.of_keeps (State.setPort_keeps r _ s) (by decide)
  decay := State.decay_rebuildWf

theorem State.writeWord_rebuildWf (k : Nat) (v : Word) (s : State) (hs : s.RebuildWf) : (s.writeWord k v).2.RebuildWf := by
  refine State.writeWord_of_owners rebuildWf_ignores [20, 22, 40, 41, 42, 43, 46, 49] (by decide) (fun k hk hs => ?_) k hs
  simp only [List.mem_cons, List.not_mem_nil, or_false] at hk
  rcases hk with rfl | rfl | rfl | rfl | rfl | rfl | rfl | rfl
  · exact hs.of_same (State.writeThresholds_sameRebuild v s)
  · exact hs.of_same (State.writeHousekeeping_sameRebuild v s)
  · exact rebuildWf_engineSide.commandRetire v hs
  · exact State.commandRebuild_keeps_of hs
      (fun r hidle _ => rebuildWf_engineSide.grants.rebuildPort r (State.startRebuild_rebuildWf hidle hs)) v
  · exact rebuildWf_engineSide.commandFill State.startFill_rebuildWf v hs
  · exact rebuildWf_engineSide.commandCopyAbort hs
  · exact hs.of_same (State.commandScoreClear_sameRebuild v s)
  · exact rebuildWf_engineSide.commandSoftReset State.softResetAccounts_rebuildWf hs

/-- Settles O58: an account enters REBUILDING with the copy context of its rebuild and leaves it at the end of the copy. -/
theorem rebuildInvariantKept : Obligations.RebuildInvariantKept := by
  unfold Obligations.RebuildInvariantKept
  exact fun s t hs ht => (rebuildWf_engineSide.steps State.writeWord_rebuildWf).step hs ht

end Sys2Proof.Machine
end

section
/-! The replica ports, the run count and the walker's settings through every step (R86, R92, R96, R104, R129, R130). -/

namespace Sys2Proof.Machine

open Sys2Proof

/-- The parts that PortsWf does not look at. -/
abbrev outsidePorts : List Part :=
  [.pins, .health, .rt, .regions, .queue, .repair, .copy, .records, .alerts, .session, .freeIndex, .pending]

/-- What PortsWf asks of one port (R86, R96). -/
structure Port.Wf (p : Port) : Prop where
  empty : p.state ≠ .ready → p.list = []
  limit : p.abortLimit.isSome = true ↔ p.state = .aborting

/-- What PortsWf asks of the walker (R129, R130). -/
structure Scrub.Wf (w : Scrub) : Prop where
  interval : 1 ≤ w.interval ∧ w.interval ≤ 65535
  passCount : w.passCount < 65536

/-- What PortsWf asks of the unit's registers (R92, R104). -/
structure Ports.RegistersWf (p : Ports) : Prop where
  replyTimeout : 1 ≤ p.replyTimeout ∧ p.replyTimeout ≤ 63
  runCount : p.runCount ≤ 16

theorem State.portsWf_iff (s : State) : s.PortsWf ↔ (∀ r, (s.port r).Wf) ∧ s.ports.RegistersWf ∧ s.scrub.Wf :=
  ⟨fun h => ⟨fun r => ⟨h.empty r, h.limit r⟩, ⟨h.replyTimeout, h.runCount⟩, ⟨h.interval, h.passCount⟩⟩,
    fun ⟨hports, hregs, hscrub⟩ => ⟨fun r => (hports r).empty, fun r => (hports r).limit, hregs.replyTimeout, hregs.runCount,
      hscrub.interval, hscrub.passCount⟩⟩

theorem portsWf_ignores : Ignores outsidePorts State.PortsWf := fun s t hk hs => by
  rw [State.portsWf_iff] at hs ⊢
  rw [hk.ports (by decide), hk.scrub (by decide)]
  exact ⟨fun r => hk.port (by decide) r ▸ hs.1 r, hs.2⟩

section PortsWf

variable {s : State} (hs : s.PortsWf)
include hs

theorem State.PortsWf.port (r : Replica) : (s.port r).Wf := (s.portsWf_iff.1 hs).1 r

/-- The ports change one by one, the registers and the walker stay. -/
theorem State.PortsWf.of_ports {t : State} (hregs : t.ports.RegistersWf) (hscrub : t.scrub = s.scrub)
    (hports : ∀ r, (t.port r).Wf) : t.PortsWf :=
  t.portsWf_iff.2 ⟨hports, hregs, hscrub ▸ (s.portsWf_iff.1 hs).2.2⟩

theorem State.PortsWf.setPort {r : Replica} {p : Port} (hp : p.Wf) : (s.setPort r p).PortsWf := by
  refine hs.of_ports ⟨hs.replyTimeout, hs.runCount⟩ rfl fun q => ?_
  rw [State.port_setPort]
  split
  · exact hp
  · exact hs.port q

theorem State.PortsWf.scrub {w : Scrub} (hw : w.Wf) : { s with scrub := w }.PortsWf :=
  State.portsWf_iff _ |>.2 ⟨(s.portsWf_iff.1 hs).1, (s.portsWf_iff.1 hs).2.1, hw⟩

theorem State.PortsWf.walker : s.scrub.Wf := (s.portsWf_iff.1 hs).2.2

end PortsWf

theorem Port.Wf.of_same {p q : Port} (h : p.Wf) (hstate : q.state = p.state) (hlimit : q.abortLimit.isSome = p.abortLimit.isSome)
    (hlist : p.list = [] → q.list = []) : q.Wf :=
  ⟨fun hq => hlist (h.empty (hstate ▸ hq)), by rw [hlimit, hstate]; exact h.limit⟩

theorem Port.emptied_wf (p : Port) : p.emptied.Wf := ⟨fun _ => rfl, fun _ => rfl, fun _ => rfl⟩

theorem Port.markGone_wf (e : Engine) {p : Port} (h : p.Wf) : (p.markGone e).Wf :=
  h.of_same rfl rfl fun hn => by simp [Port.markGone, hn]

theorem Port.advance_wf (n : Nat) {p : Port} (h : p.Wf) : (p.advance n).Wf :=
  h.of_same rfl (by simp [Port.advance]) fun hn => by simp [Port.advance, hn]

theorem wrap16_lt (n : Nat) : wrap16 n < 65536 := Nat.mod_lt _ (by decide)

theorem Scrub.Wf.sameWalk {w x : Scrub} (h : w.Wf) (hx : w.SameWalk x) : x.Wf := by
  obtain ⟨hinterval, hpass⟩ := hx
  refine ⟨hinterval ▸ h.interval, ?_⟩
  rcases hpass with hp | hp
  · exact hp ▸ h.passCount
  · exact hp ▸ wrap16_lt _

theorem State.PortsWf.frame {L : List Part} {s t : State} (hs : s.PortsWf) (hk : Keeps L s t) (hL : L ⊆ outsidePorts) : t.PortsWf :=
  portsWf_ignores.of_keeps hk hL hs

theorem State.emptied_portsWf (r : Replica) (s : State) (hs : s.PortsWf) : (s.setPort r (s.port r).emptied).PortsWf :=
  hs.setPort (Port.emptied_wf _)

theorem State.portMoved_portsWf (r : Replica) (p : Port) (s : State) (hstate : p.state = (s.port r).state)
    (hlimit : p.abortLimit = (s.port r).abortLimit) (hlist : (s.port r).list = [] → p.list = []) (hs : s.PortsWf) :
    (s.setPort r p).PortsWf := hs.setPort ((hs.port r).of_same hstate (by rw [hlimit]) hlist)

theorem State.marked_portsWf (e : Engine) (s : State) (hs : s.PortsWf) : (s.marked e).PortsWf :=
  hs.of_ports ⟨hs.replyTimeout, hs.runCount⟩ rfl fun r => by
    simpa [State.marked, State.port] using Port.markGone_wf e (hs.port r)

theorem State.engineGranted_portsWf (e : Engine) (s : State) (hs : s.PortsWf) : (s.engineGranted e).PortsWf := by
  cases e with
  | repair => exact hs.frame (t := s.engineGranted .repair) (Keeps.with_repair (L := [.repair]) (by decide) (Keeps.refl _ s)) (by decide)
  | scrub => exact hs.scrub (hs.walker.sameWalk ⟨rfl, .inl rfl⟩)
  | copy =>
    unfold State.engineGranted
    simp only
    split <;> exact hs.frame (Keeps.with_copy (L := [.copy]) (by decide) (Keeps.refl _ s)) (by decide)

theorem portsWf_grants : GrantsKeep State.PortsWf where
  table := fun _ _ hk hs => hs.frame hk (by decide)
  granted := State.engineGranted_portsWf
  visit := fun n _ hs => hs.scrub (hs.walker.sameWalk (Scrub.endVisit_sameWalk _ n))
  op := fun e x s hs => by
    cases e with
    | repair => exact hs.frame (t := s.setEngineOp .repair x) (Keeps.with_repair (L := [.repair]) (by decide) (Keeps.refl _ s)) (by decide)
    | scrub => exact hs.scrub (hs.walker.sameWalk ⟨rfl, .inl rfl⟩)
    | copy => exact hs.frame (t := s.setEngineOp .copy x) (Keeps.with_copy (L := [.copy]) (by decide) (Keeps.refl _ s)) (by decide)
  emptied := State.emptied_portsWf
  assertAbort := fun r s => State.portMoved_portsWf r _ s rfl rfl id
  marked := State.marked_portsWf

theorem State.retireCore_portsWf (r : Replica) (reason : RetireReason) (s : State) (hs : s.PortsWf) :
    (s.retireCore r reason).PortsWf := by
  rw [State.retireCore_eq]
  refine State.PortsWf.frame ?_ (State.retireFromQueue_keeps r _) (by decide)
  refine portsWf_grants.retirePort r ?_
  exact (hs.frame (State.retireAccount_keeps r reason s) (by decide)).frame
    (Keeps.with_repair (L := [.repair]) (by decide) (Keeps.refl _ (s.retireAccount r reason))) (by decide)

theorem State.copyHandOver_portsWf (kind : CopyKind) (o : CopyOutcome) {s : State} (hs : s.PortsWf) :
    (s.copyHandOver kind o).PortsWf := by
  unfold State.copyHandOver
  split
  · exact hs
  · exact hs.frame (State.unmark_keeps s) (by decide)
  · split
    · exact hs.frame (State.joinRebuilt_keeps _ _ s) (by decide)
    · exact State.retireCore_portsWf _ _ s hs

theorem State.copyStopped_portsWf (o : CopyOutcome) {s : State} (hs : s.PortsWf) : (s.copyStopped o).PortsWf :=
  portsWf_grants.abandon .copy ((hs.frame (t := { s with copy := s.copy.ended o })
    (Keeps.with_copy (L := [.copy]) (by decide) (Keeps.refl _ s)) (by decide)).frame (State.copyForget_keeps _) (by decide))

theorem State.settleRunCount_portsWf {s : State} (hs : s.PortsWf) : s.settleRunCount.PortsWf := by
  unfold State.settleRunCount
  split
  · exact hs.of_ports ⟨hs.replyTimeout, Nat.zero_le _⟩ rfl hs.port
  · exact hs

theorem State.copyEnd_portsWf (o : CopyOutcome) (s : State) (hs : s.PortsWf) : (s.copyEnd o).PortsWf := by
  have hclosed : (s.copyClosed o).PortsWf :=
    (State.copyHandOver_portsWf _ o (State.copyStopped_portsWf o hs)).frame (State.raise_keeps _ _) (by decide)
  rw [State.copyEnd_eq]
  split
  · exact hclosed
  · exact State.settleRunCount_portsWf hclosed

/-- A port whose abort has ended (R99, R100). -/
theorem Port.Wf.abortEnded {p : Port} (h : p.Wf) (ha : p.state = .aborting) (st : PortState) (hst : st ≠ .aborting) :
    Port.Wf { p with state := st, abortLimit := none, abort := false } :=
  ⟨fun _ => h.empty (by rw [ha]; decide), nofun, fun hn => absurd hn hst⟩

theorem State.endAbort_portsWf (r : Replica) (s : State) (ha : (s.port r).state = .aborting) (hs : s.PortsWf) :
    (s.endAbort r).PortsWf :=
  hs.setPort ((hs.port r).abortEnded ha _ (by split <;> decide))

theorem State.afterReset_portsWf (straps : Straps) (levels : Tri Bool) (n : Nat) (q : List Instr) :
    (State.afterReset straps levels n q).PortsWf := by
  have hport (present level : Bool) : (Port.reset present level).Wf := by cases present <;> exact ⟨fun _ => rfl, nofun, nofun⟩
  have hregs : (Ports.reset straps.present levels).RegistersWf := ⟨⟨(by decide : 1 ≤ 4), (by decide : 4 ≤ 63)⟩, Nat.zero_le _⟩
  have hwalker : Scrub.reset.Wf := ⟨by decide, by decide⟩
  refine (State.portsWf_iff _).2 ⟨fun r => ?_, hregs, hwalker⟩
  cases r <;> exact hport _ _

theorem portsWf_engineSide : EngineSideKeep State.PortsWf where
  ignores := portsWf_ignores.mono (by decide)
  copy := fun s _ _ hs => hs.frame (Keeps.with_copy (L := [.copy]) (by decide) (Keeps.refl _ s)) (by decide)
  scrub := fun _ _ hw hs => hs.scrub (hs.walker.sameWalk hw)
  applyCharge := fun r k s hs => hs.frame (State.applyCharge_keeps r k s) (by decide)
  retireCore := fun r reason s _ => State.retireCore_portsWf r reason s
  copyEnd := State.copyEnd_portsWf
  emptied := State.emptied_portsWf
  portMoved := State.portMoved_portsWf
  marked := State.marked_portsWf
  issued := fun s t hk hreply hrun hport hs => by
    refine hs.of_ports ⟨hreply ▸ hs.replyTimeout, hrun.elim id fun h => h ▸ hs.runCount⟩ (hk.scrub (by decide)) fun r => ?_
    obtain ⟨hstate, hlimit, hlist⟩ := hport r
    exact ⟨fun hn => (hlist (hstate ▸ hn)).trans ((hs.port r).empty (hstate ▸ hn)), by rw [hlimit, hstate]; exact (hs.port r).limit⟩
  reset := State.afterReset_portsWf
  advance := fun n _ hs => (State.portsWf_iff _).2 ⟨fun r => by
    simpa [State.advance, State.port] using Port.advance_wf n (hs.port r), ⟨hs.replyTimeout, hs.runCount⟩, hs.interval, hs.passCount⟩
  endAbort := State.endAbort_portsWf
  running := fun s _ _ _ hs => hs.frame (Keeps.with_copy (L := [.copy]) (by decide) (Keeps.refl _ s)) (by decide)
  portOff := fun _ _ _ hs => hs.setPort ⟨fun _ => rfl, nofun, nofun⟩
  decay := fun s hs => hs.frame (State.decay_keeps s) (by decide)

theorem Scrub.retime_wf {w : Scrub} (h : w.Wf) (on : Bool) {n : Nat} (hn : 1 ≤ n ∧ n ≤ 65535) : (w.retime on n).Wf := by
  have hretimed : (w.retime on n).interval = n ∧ (w.retime on n).passCount = w.passCount := by
    unfold Scrub.retime
    simp only
    split
    · split <;> exact ⟨rfl, rfl⟩
    · split_ifs <;> exact ⟨rfl, rfl⟩
    · split_ifs <;> exact ⟨rfl, rfl⟩
    · exact ⟨rfl, rfl⟩
    · exact ⟨rfl, rfl⟩
  exact ⟨by rw [hretimed.1]; exact hn, by rw [hretimed.2]; exact h.passCount⟩

theorem timingOperand_bounds {v : Word} (h : (timingOperand v).valid = true) :
    (1 ≤ (timingOperand v).replyTimeout ∧ (timingOperand v).replyTimeout ≤ 63)
      ∧ 1 ≤ (timingOperand v).scrubInterval ∧ (timingOperand v).scrubInterval ≤ 65535 := by
  simp only [TimingFields.valid, Bool.and_eq_true, bne_iff_ne] at h
  exact ⟨⟨Nat.one_le_iff_ne_zero.2 h.1, Nat.le_of_lt_succ (Word.field_lt v 0 6)⟩, Nat.one_le_iff_ne_zero.2 h.2,
    Nat.le_of_lt_succ (Word.field_lt v 6 16)⟩

theorem State.writeTiming_portsWf (v : Word) {s : State} (hs : s.PortsWf) : (s.writeTiming v).2.PortsWf := by
  unfold State.writeTiming
  simp only
  split
  · rename_i hv
    obtain ⟨hreply, hinterval⟩ := timingOperand_bounds hv
    exact (State.portsWf_iff _).2 ⟨hs.port, ⟨hreply, hs.runCount⟩, Scrub.retime_wf hs.walker _ hinterval⟩
  · exact hs

theorem State.writeWord_portsWf (k : Nat) (v : Word) (s : State) (hs : s.PortsWf) : (s.writeWord k v).2.PortsWf := by
  refine State.writeWord_of_owners portsWf_ignores [21, 40, 41, 42, 43, 49] (by decide) (fun k hk hs => ?_) k hs
  simp only [List.mem_cons, List.not_mem_nil, or_false] at hk
  rcases hk with rfl | rfl | rfl | rfl | rfl | rfl
  · exact State.writeTiming_portsWf v hs
  · exact portsWf_engineSide.commandRetire v hs
  · exact State.commandRebuild_keeps_of hs (fun r _ _ => portsWf_engineSide.grants.rebuildPort r
      (hs.frame (State.startRebuild_keeps r s) (by decide))) v
  · exact portsWf_engineSide.commandFill (fun n s _ hs => hs.frame (State.startFill_keeps n s) (by decide)) v hs
  · exact portsWf_engineSide.commandCopyAbort hs
  · exact portsWf_engineSide.commandSoftReset (fun s hs => (hs.frame (State.softClearAlerts_keeps s) (by decide)).frame
      (State.softResetAccounts_keeps _) (by decide)) hs

/-- Settles O59: a list is filled only on a READY port, and each port enters and leaves ABORTING together with its limit. -/
theorem portsInvariantKept : Obligations.PortsInvariantKept := by
  unfold Obligations.PortsInvariantKept
  exact fun s t hs ht => (portsWf_engineSide.steps State.writeWord_portsWf).step hs ht

end Sys2Proof.Machine
end

section
/-! The step, the tick and the two resets. -/

namespace Sys2Proof.Machine

open Sys2Proof

/-! ## The tick (log 2, log 4) -/

/-- Settles O1: the front of the queue is taken by definition of the step. -/
theorem stepTakesFrontCommand : Obligations.StepTakesFrontCommand := fun _ _ _ => rfl

/-- A free order is an order of the same elements. -/
theorem freeOrder_perm {α : Type} (n i : Nat) (l : List α) (h : l.length ≤ n) : (freeOrder n i l).Perm l := by
  induction n generalizing i l with
  | zero => rw [List.length_eq_zero_iff.1 (Nat.le_zero.1 h)]; exact .refl _
  | succ n ih =>
    cases l with
    | nil => exact .refl _
    | cons x l =>
      cases l with
      | nil => exact .refl _
      | cons y rest =>
        have hk : Config.freeChoice i % (rest.length + 2) < (x :: y :: rest).length := Nat.mod_lt _ (Nat.succ_pos _)
        have hrest := ih (i + 1) ((x :: y :: rest).eraseIdx (Config.freeChoice i % (rest.length + 2)))
          (by rw [List.length_eraseIdx_of_lt hk]; exact Nat.sub_le_of_le_add h)
        simp only [freeOrder, List.getD_eq_getElem _ _ hk]
        exact (hrest.cons _).trans (List.getElem_cons_eraseIdx_perm hk)

/-- The replicas whose head has reached its deadline. -/
def State.headDue (s : State) (r : Replica) : Prop :=
  ∃ x rest, (s.port r).state = .ready ∧ (s.port r).list = x :: rest ∧ x.deadline = 0

/-- The expiries that are due, one by one. -/
theorem State.mem_due (s : State) (c : Instr) :
    c ∈ s.due ↔ (∃ r, c = .portTimeout r ∧ s.headDue r)
      ∨ (∃ r, c = .portDead r ∧ (s.port r).state = .aborting ∧ (s.port r).abortLimit = some 0)
      ∨ (c = .decayExpiry ∧ s.health.decayTimer = 0) ∨ (c = .scrubIntervalExpiry ∧ s.scrub.timer = some 0)
      ∨ (c = .sessionIdleExpiry ∧ s.session.idleTimer = some 0) := by
  have hif (p : Prop) [Decidable p] (d : Instr) : c ∈ (if p then [d] else []) ↔ c = d ∧ p := by
    split <;> simp_all
  simp only [State.due, List.mem_append, List.mem_map, List.mem_filter, hif, Bool.and_eq_true, beq_iff_eq,
    Replica.mem_all, true_and, or_assoc]
  constructor
  · rintro (⟨r, hr, rfl⟩ | ⟨r, hr, rfl⟩ | h)
    · split at hr
      · rename_i x rest hstate hlist
        exact .inl ⟨r, rfl, x, rest, hstate, hlist, by simpa using hr⟩
      all_goals cases hr
    · exact .inr (.inl ⟨r, rfl, hr⟩)
    · exact .inr (.inr h)
  · rintro (⟨r, rfl, x, rest, hstate, hlist, hdue⟩ | ⟨r, rfl, hr⟩ | h)
    · exact .inl ⟨r, by simp [hstate, hlist, hdue], rfl⟩
    · exact .inr (.inl ⟨r, hr, rfl⟩)
    · exact .inr (.inr h)

theorem State.due_nodup (s : State) : s.due.Nodup := by
  have hreplicas (p : Replica → Bool) {f : Replica → Instr} (hf : Function.Injective f) : ((Replica.all.filter p).map f).Nodup :=
    (List.Nodup.filter p (by decide)).map hf
  have hif (p : Prop) [Decidable p] (d : Instr) : (if p then [d] else []).Nodup := by
    split
    · exact List.nodup_singleton d
    · exact List.nodup_nil
  unfold State.due
  refine (((((hreplicas _ fun _ _ h => Instr.portTimeout.inj h).append (hreplicas _ fun _ _ h => Instr.portDead.inj h) ?_).append
    (hif _ _) ?_).append (hif _ _) ?_).append (hif _ _) ?_)
  all_goals
    intro c hc hd
    simp only [List.mem_append, List.mem_map] at hc hd
    grind

/-- Settles O2: every timer counts one boundary, and the expiries due are queued in some order. -/
theorem emptyQueueStepPassesOneTick : Obligations.EmptyQueueStepPassesOneTick := by
  unfold Obligations.EmptyQueueStepPassesOneTick
  intro s hempty
  have hstep : step s = .next s.tick := by unfold step; rw [hempty]
  refine ⟨fun hreset => ?asserted, fun hreset => ?released⟩
  case asserted => rw [hstep, State.tick, if_pos hreset]
  case released =>
    have htick : s.tick =
        { s.advance 1 with
          pending := (s.advance 1).pending ++ freeOrder (s.advance 1).due.length (s.advance 1).freeIndex (s.advance 1).due
          freeIndex := (s.advance 1).freeIndex + (s.advance 1).due.length } := by
      rw [State.tick, if_neg (by simp [hreset])]
    have hperm : s.tick.pending.Perm (s.advance 1).due := by
      have hp : (s.advance 1).pending = [] := hempty
      rw [htick]
      simpa only [hp, List.nil_append] using freeOrder_perm _ _ _ (Nat.le_refl _)
    have hport (r : Replica) : s.tick.port r = (s.port r).advance 1 := by
      rw [htick]; simp [State.port, State.advance]
    refine ⟨s.tick, hstep, ?_⟩
    have hk : Keeps [.health, .scrub, .session, .ports, .pending, .freeIndex] s s.tick := by
      rw [htick]; intro p hp; cases p <;> first | rfl | exact absurd hp (by decide)
    refine ⟨by rw [htick]; rfl, by rw [htick]; rfl, by rw [htick]; rfl, by rw [htick]; rfl, by rw [htick]; rfl, hport,
      hperm.nodup_iff.2 (State.due_nodup _), fun c => ?_, hk⟩
    rw [hperm.mem_iff, State.mem_due, htick]
    simp only [State.headDue]
    constructor
    · rintro (⟨r, hc, x, rest, h⟩ | h)
      exacts [.inl ⟨r, x, rest, hc, h⟩, .inr h]
    · rintro (⟨r, x, rest, hc, h⟩ | h)
      exacts [.inl ⟨r, hc, x, rest, h⟩, .inr h]

/-! ## Hardware reset and the release of RESET_N -/

theorem Account.reset_eq (present : Bool) : Account.reset present =
    if present then { state := .healthy, score := 0, reason := .none, alertMode := .level }
    else { state := .retired, score := 0, reason := .absent, alertMode := .level } := by
  cases present <;> rfl

theorem Port.reset_spec (present level : Bool) :
    (Port.reset present level).state = (if present then .ready else .off) ∧ (Port.reset present level).list = []
      ∧ (Port.reset present level).abortLimit = none ∧ (Port.reset present level).abort = false
      ∧ (Port.reset present level).abortDone = level := ⟨rfl, rfl, rfl, rfl, rfl⟩

theorem Alerts.reset_causes (present : Tri Bool) (c : Cause) :
    ((Alerts.reset present).causes.get c).latch = decide (c = .degraded ∧ present.count < 3)
      ∧ ((Alerts.reset present).causes.get c).condition = ((Alerts.reset present).causes.get c).latch
      ∧ ((Alerts.reset present).causes.get c).acked = false := by
  rcases present with ⟨_ | _, _ | _, _ | _⟩ <;> cases c with
  | health r => cases r <;> decide
  | _ => decide

theorem Alerts.reset_enable (present : Tri Bool) (c : Cause) :
    (Alerts.reset present).enable.get c = decide (c = .dataLoss ∨ c = .degraded) := by
  cases c with
  | health r => cases r <;> rfl
  | _ => rfl

/-- Settles O6: each block's reset state, and the line at the release. -/
theorem hardwareResetRestoresEveryBlock : Obligations.HardwareResetRestoresEveryBlock := by
  unfold Obligations.HardwareResetRestoresEveryBlock
  refine ⟨fun straps s => ⟨_, rfl, rfl, fun r => ?accounts, rfl, rfl, rfl, fun i => ?slots, rfl, rfl, rfl, rfl, fun e => ?locks,
    State.reset_descriptors, rfl, rfl, fun r => ?ports, rfl, rfl, rfl, rfl, rfl, rfl, rfl, rfl, rfl, rfl, rfl, rfl, rfl, rfl,
    rfl, rfl, rfl, rfl, rfl, rfl, rfl, rfl, rfl, rfl, Alerts.reset_causes straps.present, Alerts.reset_enable straps.present,
    rfl, rfl, rfl, rfl, rfl, rfl, rfl, rfl, fun k => ?stages, rfl, rfl⟩, fun s hreset => ?release⟩
  case accounts => cases r <;> exact Account.reset_eq _
  case slots => exact Vector.getElem_replicate i.isLt
  case locks => cases e <;> rfl
  case ports => cases r <;> exact Port.reset_spec _ _
  case stages => exact Vector.getElem_replicate k.isLt
  case release =>
    have hexec : exec .resetNRelease s = execResetNRelease s := rfl
    refine ⟨s.releaseReset, ?_, rfl, rfl, rfl, ?_, ?_⟩
    · rw [hexec, execResetNRelease, if_pos hreset]; rfl
    · have hline : s.releaseReset.LineWf := State.refreshLine_lineWf _
      exact hline.trans (and_iff_right rfl)
    · intro p hp; cases p <;> first | rfl | exact absurd hp (by decide)

/-! ## STAGE_WRITE (R198) -/

theorem State.writeWord_stage (k : Fin 4) (v : Word) (s : State) : s.writeWord (16 + k.val) v = s.writeStage k v := by
  fin_cases k <;> rfl

/-- Settles O15: the row writes word 16 + k, whose owner replaces the staging word. -/
theorem stageWriteReplacesStagingWord : Obligations.StageWriteReplacesStagingWord := by
  unfold Obligations.StageWriteReplacesStagingWord
  intro s tag k v hready
  have haccess : wordAccess (16 + k.val) = .writeOnly ∨ wordAccess (16 + k.val) = .readWrite := by revert k; decide
  have hready' : mayReady (16 + k.val) = false := by revert k; decide
  exact ⟨_, _, rfl, State.acceptWordWrite_taken hready (by omega) haccess hready' (State.writeWord_stage k v s) rfl, rfl⟩

end Sys2Proof.Machine
end

section
/-! Which commands complete, and which change nothing because their event cannot occur (log 1, log 3, log 17). -/

namespace Sys2Proof.Machine

open Sys2Proof

/-! ## Rows that are a write to one aperture word -/

theorem exec_of_wordRow {c : Instr} {tag : Tag} {k : Nat} {v : Word} (h : wordRow c = some (tag, k, v)) (s : State) :
    exec c s = .next (s.acceptWordWrite tag k v) := by
  unfold wordRow at h
  split at h <;> cases h <;> rfl

theorem exec_requestAccept {r : Request} (h : r.wellFormed = true) (s : State) : exec (.requestAccept r) s = .next (s.accept r) :=
  if_pos h

/-- The request of an APERTURE_WRITE. -/
def State.apertureRequest (s : State) (tag : Tag) (word : Fin 64) (length : Fin 16) (enables : List Enables) (data : List Word) :
    Request where
  tag := tag
  address := BitVec.ofNat 32 (s.session.base / 8 + word.val)
  length := length
  access := .write enables data

theorem exec_apertureWrite {length : Fin 16} {enables : List Enables} {data : List Word}
    (h : (Access.write enables data).wellFormed length = true) (tag : Tag) (word : Fin 64) (s : State) :
    exec (.apertureWrite tag word length enables data) s = .next (s.accept (s.apertureRequest tag word length enables data)) :=
  if_pos h

theorem State.accept_of_not_accepting {s : State} (h : s.accepting = false) (r : Request) : s.accept r = s := by
  simp [State.accept, h]

/-! ## Grants that are not made -/

theorem execUpstreamGrant_of_other {s : State} (h : ∀ i, s.arbiter ≠ some (.upstream i)) : execUpstreamGrant s = .next s := by
  unfold execUpstreamGrant
  split
  · exact absurd ‹_› (h _)
  · rfl
  · rfl

/-! ## Events at a port -/

theorem State.expireHead_of_no_head {s : State} {r : Replica} (h : (s.port r).state ≠ .ready ∨ (s.port r).list = []) :
    s.expireHead r = s := by
  unfold State.expireHead
  split
  · rename_i hstate hlist
    exact absurd h (by simp [hstate, hlist])
  all_goals rfl

theorem State.expireHead_of_ready {s : State} {r : Replica} {head : IssueEntry} {rest : List IssueEntry}
    (hstate : (s.port r).state = .ready) (hlist : (s.port r).list = head :: rest) :
    s.expireHead r = if head.deadline = 0 then s.timeOut r head else s := by
  unfold State.expireHead
  rw [hstate, hlist]

theorem State.expireHead_of_time_left {s : State} {r : Replica} {head : IssueEntry} {rest : List IssueEntry}
    (hlist : (s.port r).list = head :: rest) (h : head.deadline ≠ 0) : s.expireHead r = s := by
  by_cases hstate : (s.port r).state = .ready
  · rw [State.expireHead_of_ready hstate hlist, if_neg h]
  · exact State.expireHead_of_no_head (.inl hstate)

theorem execPortAnswer_of_no_head {s : State} {r : Replica} (h : (s.port r).state ≠ .ready ∨ (s.port r).list = [])
    (x : BankAnswer) : execPortAnswer r x s = .next s := by
  unfold execPortAnswer
  split
  · rename_i hstate hlist
    exact absurd h (by simp [hstate, hlist])
  all_goals rfl

theorem execBankOpAccept_of_not_ready {s : State} {r : Replica} (h : (s.port r).state ≠ .ready) :
    execBankOpAccept r s = .next s := by
  unfold execBankOpAccept
  split
  · exact absurd ‹_› h
  all_goals rfl

theorem execPortDead_of_not_due {s : State} {r : Replica} (h : (s.port r).state ≠ .aborting ∨ (s.port r).abortLimit ≠ some 0) :
    execPortDead r s = .next s := by
  unfold execPortDead
  split
  · rename_i hstate hlimit
    exact absurd h (by simp [hstate, hlimit])
  all_goals rfl

/-! ## Claims and timers -/

theorem execBlockClaimGrant_of_no_claim {s : State} {e : Engine} (h : (s.lock e).claim = none) :
    execBlockClaimGrant e s = .next s := by
  unfold execBlockClaimGrant
  rw [h]

theorem execRepairTake_of_none {s : State} (h : s.repair.phase ≠ .idle ∨ s.queue = []) : execRepairTake s = .next s := by
  unfold execRepairTake
  split
  · rename_i hphase hqueue
    exact absurd h (by simp [hphase, hqueue])
  all_goals rfl

theorem execScrubIntervalExpiry_of_not_due {s : State}
    (h : (s.scrub.state ≠ .waiting ∧ s.scrub.state ≠ .paused) ∨ s.scrub.timer ≠ some 0) :
    execScrubIntervalExpiry s = .next s := by
  unfold execScrubIntervalExpiry
  split
  · rename_i hstate htimer
    exact absurd h (by simp [hstate, htimer])
  · rename_i hstate htimer
    exact absurd h (by simp [hstate, htimer])
  all_goals rfl

theorem execSessionIdleExpiry_of_not_due {s : State} (h : s.session.state ≠ .opened ∨ s.session.idleTimer ≠ some 0) :
    execSessionIdleExpiry s = .next s := by
  unfold execSessionIdleExpiry
  split
  · rename_i hstate htimer
    exact absurd h (by simp [hstate, htimer])
  all_goals rfl

theorem execDecayExpiry_of_not_due {s : State} (h : s.pins.resetAsserted = true ∨ s.health.decayTimer ≠ 0) :
    execDecayExpiry s = .next s :=
  if_pos (by simpa using h)

/-- Settles O4: each command's own test fails, and the state is handed back. -/
theorem impossibleEventsChangeNothing : Obligations.ImpossibleEventsChangeNothing := by
  unfold Obligations.ImpossibleEventsChangeNothing
  intro s
  have hgrant {p q : Prop} [Decidable p] [Decidable q] {t : State} (h : ¬p ∨ ¬q) :
      (if p ∧ q then Host.Outcome.next t else .next s : Result) = .next s := if_neg (not_and_or.2 h)
  have hcopy {p q q' : Prop} [Decidable p] [Decidable q] [Decidable q'] {t : State} (h : ¬p) :
      (if p ∧ q ∧ q' then Host.Outcome.next t else .next s : Result) = .next s := if_neg fun hn => h hn.1
  refine ⟨fun hacc => ⟨fun r hr => ?_, fun tag word length enables data hr => ?_, fun c tag k v hrow => ?_⟩,
    fun hchannel => ?_, execUpstreamGrant_of_other, hgrant, hgrant, hgrant, fun h => ⟨hcopy h, hcopy h, hcopy h⟩,
    fun h => hgrant (.inl h), fun r h => ⟨?_, execPortAnswer_of_no_head h⟩, fun r head rest hlist h => ?_,
    fun r => execBankOpAccept_of_not_ready, fun r => execPortDead_of_not_due, fun e => execBlockClaimGrant_of_no_claim,
    execRepairTake_of_none, execScrubIntervalExpiry_of_not_due, execSessionIdleExpiry_of_not_due, execDecayExpiry_of_not_due,
    fun h => if_neg (by simp [h])⟩
  · rw [exec_requestAccept hr, State.accept_of_not_accepting hacc]
  · rw [exec_apertureWrite hr, State.accept_of_not_accepting hacc]
  · rw [exec_of_wordRow hrow, State.acceptWordWrite, State.accept_of_not_accepting hacc]
  · have hexec : exec .responseTaken s = execResponseTaken s := rfl
    rw [hexec, execResponseTaken, hchannel]
  · exact congrArg Host.Outcome.next (State.expireHead_of_no_head h)
  · exact congrArg Host.Outcome.next (State.expireHead_of_time_left hlist h)

/-! ## Commands that complete -/

/-- A command of the interface completes in every state. -/
theorem exec_completes {c : Instr} (h : c.wellFormed = true) (s : State) : ∃ t, exec c s = .next t := by
  have hite {p : Prop} [Decidable p] (t u : State) : ∃ v, (if p then Host.Outcome.next t else .next u : Result) = .next v := by
    split <;> exact ⟨_, rfl⟩
  cases c with
  | requestAccept r => exact ⟨_, exec_requestAccept h s⟩
  | apertureWrite tag word length enables data => exact ⟨_, exec_apertureWrite h tag word s⟩
  | repairReadGrant => exact hite _ _
  | repairWriteGrant => exact hite _ _
  | repairVerifyGrant => exact hite _ _
  | scrubReadGrant => exact hite _ _
  | fillWriteGrant => exact hite _ _
  | rebuildReadGrant => exact hite _ _
  | rebuildWriteGrant => exact hite _ _
  | decayExpiry => exact hite _ _
  | resetNRelease => exact hite _ _
  | responseTaken =>
    change ∃ t, execResponseTaken s = .next t
    unfold execResponseTaken
    split
    · exact ⟨_, rfl⟩
    · split <;> exact ⟨_, rfl⟩
  | upstreamGrant =>
    change ∃ t, execUpstreamGrant s = .next t
    unfold execUpstreamGrant
    split
    · split <;> exact ⟨_, rfl⟩
    all_goals exact ⟨_, rfl⟩
  | blockClaimGrant e =>
    change ∃ t, execBlockClaimGrant e s = .next t
    unfold execBlockClaimGrant
    split
    · exact ⟨_, rfl⟩
    · split_ifs <;> exact ⟨_, rfl⟩
  | abortDone r =>
    change ∃ t, execAbortDone r s = .next t
    unfold execAbortDone
    simp only
    split
    · exact ⟨_, rfl⟩
    · split <;> exact ⟨_, rfl⟩
  | bankOpAccept r =>
    change ∃ t, execBankOpAccept r s = .next t
    unfold execBankOpAccept
    split <;> exact ⟨_, rfl⟩
  | portAnswer r x =>
    change ∃ t, execPortAnswer r x s = .next t
    unfold execPortAnswer
    split <;> exact ⟨_, rfl⟩
  | portDead r =>
    change ∃ t, execPortDead r s = .next t
    unfold execPortDead
    split <;> exact ⟨_, rfl⟩
  | scrubIntervalExpiry =>
    change ∃ t, execScrubIntervalExpiry s = .next t
    unfold execScrubIntervalExpiry
    split <;> exact ⟨_, rfl⟩
  | sessionIdleExpiry =>
    change ∃ t, execSessionIdleExpiry s = .next t
    unfold execSessionIdleExpiry
    split <;> exact ⟨_, rfl⟩
  | repairTake =>
    change ∃ t, execRepairTake s = .next t
    unfold execRepairTake
    split <;> exact ⟨_, rfl⟩
  | _ => exact ⟨_, rfl⟩

/-- Settles O3: exec has no refusing arm but the two that carry a request. -/
theorem wellFormedCommandsComplete : Obligations.WellFormedCommandsComplete := by
  unfold Obligations.WellFormedCommandsComplete
  exact ⟨fun _ s hc => exec_completes hc s, fun _ _ hr => if_neg (by simp [hr]),
    fun _ _ _ _ _ _ hr => if_neg (ne_true_of_eq_false hr)⟩

end Sys2Proof.Machine
end

section
/-! The acceptance of a request: refusals, memory requests and aperture accesses (R26 to R31, R195); the session's knock and closes
(R190 to R193); the response channel (R43, R45). -/

namespace Sys2Proof.Machine

open Sys2Proof

/-! ## The response channel (R43, R45) -/

theorem holdingResponse_eq (tag : Tag) : holdingResponse tag = refusedResponse tag .tagInUse := rfl

section PresentNext

variable {s : State} (hchannel : s.rt.channel = none)
include hchannel

theorem State.presentNext_of_holding {tag : Tag} (h : s.rt.holding = some tag) :
    s.presentNext = { s with rt := { s.rt with channel := some ⟨.holding, holdingResponse tag⟩ } } := by
  unfold State.presentNext
  rw [hchannel, h]

theorem State.presentNext_of_none (h : s.rt.holding = none) (ho : s.rt.answerOrder = []) : s.presentNext = s := by
  unfold State.presentNext
  rw [hchannel, h, ho]

theorem State.presentNext_of_head (h : s.rt.holding = none) {i : SlotId} {rest : List SlotId}
    (ho : s.rt.answerOrder = i :: rest) :
    s.presentNext =
      { s with
        rt := { s.rt with channel := (s.slot i).map fun sl => ⟨.slot i, sl.response⟩, answerOrder := rest } } := by
  unfold State.presentNext
  rw [hchannel, h, ho]

end PresentNext

/-- The state in which RT looks for the next response: the taken one has left, and its place is free (R45). -/
def State.responseLeft (p : Presented) (s : State) : State :=
  match p.source with
  | .slot i => State.setSlot i none { s with rt := { s.rt with channel := none } }
  | .holding => { s with rt := { s.rt with channel := none, holding := none } }

theorem State.responseLeft_of_slot {p : Presented} {i : SlotId} (h : p.source = .slot i) (s : State) :
    s.responseLeft p = State.setSlot i none { s with rt := { s.rt with channel := none } } := by
  unfold State.responseLeft; rw [h]

theorem State.responseLeft_of_holding {p : Presented} (h : p.source = .holding) (s : State) :
    s.responseLeft p = { s with rt := { s.rt with channel := none, holding := none } } := by
  unfold State.responseLeft; rw [h]

theorem exec_responseTaken {s : State} {p : Presented} (h : s.rt.channel = some p) :
    exec .responseTaken s = .next (s.responseLeft p).presentNext := by
  change execResponseTaken s = _
  unfold execResponseTaken
  rw [h]
  simp only
  split
  · rw [State.responseLeft_of_slot ‹_›]
  · rw [State.responseLeft_of_holding ‹_›]

/-- What the taken response's place holds, and that nothing else of the table has changed. -/
theorem State.responseLeft_rest (p : Presented) (s : State) :
    (s.responseLeft p).rt.channel = none ∧ (s.responseLeft p).rt.answerOrder = s.rt.answerOrder
      ∧ (s.responseLeft p).rt.acceptOrder = s.rt.acceptOrder ∧ (s.responseLeft p).rt.locks = s.rt.locks
      ∧ Keeps [.rt] s (s.responseLeft p) := by
  unfold State.responseLeft
  cases p.source with
  | slot i => exact ⟨rfl, rfl, rfl, rfl, (Keeps.with_rt (by decide) (Keeps.refl _ s)).trans (State.setSlot_keeps _ _ _)⟩
  | holding => exact ⟨rfl, rfl, rfl, rfl, Keeps.with_rt (by decide) (Keeps.refl _ s)⟩

/-- Settles O12: the place empties, and the next response is the holding place's, else that of the answer order list's head. -/
theorem responseTakenFreesItsPlace : Obligations.ResponseTakenFreesItsPlace := by
  unfold Obligations.ResponseTakenFreesItsPlace
  intro s p hp
  obtain ⟨hchannel, horder, haccept, hlocks, hkeeps⟩ := State.responseLeft_rest p s
  obtain ⟨hslots, hholding, haccept', hlocks'⟩ := State.presentNext_rest (s.responseLeft p)
  have hslot (j : SlotId) : (s.responseLeft p).presentNext.slot j = (s.responseLeft p).slot j := State.slot_congr hslots j
  refine ⟨(s.responseLeft p).presentNext, exec_responseTaken hp, fun i hi => ?slot, fun hsource => ?holding, fun tag htag => ?held,
    fun hnone hempty => ?nothing, fun j rest sl hnone hhead hsl => ?head, haccept'.trans haccept, hlocks'.trans hlocks,
    (State.presentNext_keeps _).after (by decide) hkeeps⟩
  case slot =>
    have hleft := State.responseLeft_of_slot hi s
    refine ⟨?_, fun j hj => ?_, ?_⟩
    · rw [hslot, hleft, State.slot_setSlot_self]
    · rw [hslot, hleft, State.slot_setSlot, if_neg hj]; rfl
    · rw [hholding, hleft]; rfl
  case holding =>
    rw [hslots, hholding, State.responseLeft_of_holding hsource]
    exact ⟨rfl, rfl⟩
  case held =>
    rw [hholding] at htag
    rw [State.presentNext_of_holding hchannel htag]
    exact ⟨rfl, horder⟩
  case nothing =>
    rw [hholding] at hnone
    rw [State.presentNext_of_none hchannel hnone (horder.trans hempty)]
    exact ⟨hchannel, horder.trans hempty⟩
  case head =>
    rw [hholding] at hnone
    rw [hslot] at hsl
    rw [State.presentNext_of_head hchannel hnone (horder.trans hhead)]
    exact ⟨by simp [hsl], rfl⟩

/-! ## The checks of R26 -/

theorem Request.malformed_iff (r : Request) :
    Request.malformed r = true ↔ r.length.val = 0 ∨ 8 < r.length.val ∨ 8 < r.firstWord + r.length.val := by
  simp [Request.malformed, or_assoc]

theorem State.inAperture_iff (s : State) (r : Request) :
    s.inAperture r = true ↔ s.session.state = .opened ∧ s.session.covers r.block = true := by
  simp [State.inAperture]

theorem State.check_of_tagInUse {s : State} {r : Request} (h : s.tagInUse r.tag = true) : s.check r = .tagInUse := if_pos h

theorem State.check_of_refusal {s : State} {r : Request} {reason : Reason} (htag : s.tagInUse r.tag = false)
    (h : s.refusal r = some reason) : s.check r = .refused reason := by
  simp only [State.refusal, Request.malformed_iff, State.inAperture_iff] at h
  rw [State.check, if_neg (by simp [htag])]
  split_ifs at h ⊢ <;> cases h <;> rfl

theorem State.check_of_memory {s : State} {r : Request} (htag : s.tagInUse r.tag = false) (h : s.refusal r = none)
    (ha : s.inAperture r = false) : s.check r = .memory := by
  rw [State.refusal, ha] at h
  have ha' := mt (State.inAperture_iff s r).2 (by simp [ha])
  simp only [Request.malformed_iff] at h
  rw [State.check, if_neg (by simp [htag]), if_neg (c := _ ∧ _) ha']
  split_ifs at h ⊢ <;> simp_all

section Accept

variable {s : State} {i : SlotId} (hacc : s.accepting = true) (hi : s.freeSlot = some i) {r : Request}
include hacc hi

theorem State.accept_of_tagInUse (h : s.check r = .tagInUse) : s.accept r = (s.holdRefusal r.tag).judgeWrite r true := by
  simp [State.accept, hacc, hi, h]

theorem State.accept_of_refused {reason : Reason} (h : s.check r = .refused reason) :
    s.accept r = (s.placeRefused i r .memory reason).judgeWrite r true := by
  simp [State.accept, hacc, hi, h]

theorem State.accept_of_memory (h : s.check r = .memory) : s.accept r = (s.placeMemory i r).judgeWrite r false := by
  simp [State.accept, hacc, hi, h]

end Accept

/-- What the session makes of an accepted request that did not change it before (R29, R190). -/
theorem State.judgeWrite_session {s u : State} (r : Request) (refused : Bool) (hu : Keeps [.rt] s u) :
    (r.access.kind = .read → (u.judgeWrite r refused).session = s.session)
      ∧ (r.access.kind = .write → (u.judgeWrite r refused).session = s.session.judge s.pins.straps.knockEn r refused) := by
  constructor <;> intro h <;> simp only [State.judgeWrite, h]
  · exact hu.session (by decide)
  · rw [hu.session (by decide), hu.pins (by decide)]

theorem State.judgeWrite_rt (r : Request) (refused : Bool) (s : State) : (s.judgeWrite r refused).rt = s.rt :=
  (State.judgeWrite_keeps r refused s).rt (by decide)

theorem State.holdRefusal_of_free {s : State} (h : s.rt.channel = none) (tag : Tag) :
    s.holdRefusal tag =
      { s with rt := { s.rt with holding := some tag, channel := some ⟨.holding, refusedResponse tag .tagInUse⟩ } } :=
  State.presentNext_of_holding (s := { s with rt := { s.rt with holding := some tag } }) h rfl

theorem State.holdRefusal_of_busy {s : State} (h : s.rt.channel.isSome = true) (tag : Tag) :
    s.holdRefusal tag = { s with rt := { s.rt with holding := some tag } } :=
  State.presentNext_of_channel (s := { s with rt := { s.rt with holding := some tag } }) h

/-- Nothing else of the table changes when the holding place takes a tag (R27). -/
theorem State.holdRefusal_rest (tag : Tag) (s : State) :
    (s.holdRefusal tag).rt.slots = s.rt.slots ∧ (s.holdRefusal tag).rt.acceptOrder = s.rt.acceptOrder
      ∧ (s.holdRefusal tag).rt.answerOrder = s.rt.answerOrder ∧ (s.holdRefusal tag).rt.locks = s.rt.locks
      ∧ (s.holdRefusal tag).rt.holding = some tag := by
  cases hc : s.rt.channel with
  | none => rw [State.holdRefusal_of_free hc]; exact ⟨rfl, rfl, rfl, rfl, rfl⟩
  | some p => rw [State.holdRefusal_of_busy (by rw [hc]; rfl)]; exact ⟨rfl, rfl, rfl, rfl, rfl⟩

/-- Settles O8: the holding place takes the tag, or the FREE slot is answered at once; the session judges a refused write. -/
theorem refusedRequestsAreAnswered : Obligations.RefusedRequestsAreAnswered := by
  unfold Obligations.RefusedRequestsAreAnswered
  refine ⟨fun s r hwf hacc htag => ?_, fun s r reason i hwf hready hi hrefusal => ?_⟩
  · obtain ⟨-, ⟨i, hi⟩, hfree⟩ := State.accepting_spec hacc
    have hk := State.holdRefusal_keeps r.tag s
    have hrt := State.judgeWrite_rt r true (s.holdRefusal r.tag)
    obtain ⟨hslots, haccept, hanswer, hlocks, hholding⟩ := State.holdRefusal_rest r.tag s
    obtain ⟨hread, hwrite⟩ := State.judgeWrite_session r true hk
    refine ⟨(s.holdRefusal r.tag).judgeWrite r true, ?_, hrt ▸ hslots, hrt ▸ haccept, hrt ▸ hanswer, hrt ▸ hlocks,
      hrt ▸ hholding, fun hc => ?_, fun hc => ?_, hread, hwrite,
      (State.judgeWrite_keeps r true _).after (by decide) (hk.mono (by decide))⟩
    · rw [exec_requestAccept hwf, State.accept_of_tagInUse hacc hi (State.check_of_tagInUse htag)]
    · rw [hrt, State.holdRefusal_of_free hc]
    · rw [hrt, State.holdRefusal_of_busy hc]
  · obtain ⟨hacc, htag⟩ := State.acceptsTag_spec hready
    have hk := State.placeRefused_keeps i r .memory reason s
    obtain ⟨hread, hwrite⟩ := State.judgeWrite_session r true hk
    have hfree := (State.accepting_spec hacc).2.2
    exact ⟨_, by rw [exec_requestAccept hwf, State.accept_of_refused hacc hi (State.check_of_refusal htag hrefusal)],
      (State.placeRefused_at hfree).congr rfl (State.judgeWrite_rt r true _), hread, hwrite,
      (State.judgeWrite_keeps r true _).after (by decide) (hk.mono (by decide))⟩

/-! ## Memory requests (R31, R32, R34, R35) -/

theorem State.held_iff (s : State) (block : Nat) : s.held block = true ↔ ∃ e, (s.lock e).held = some block := by
  simp only [State.held, State.heldBy, Bool.or_eq_true, beq_iff_eq]
  constructor
  · rintro ((h | h) | h)
    exacts [⟨_, h⟩, ⟨_, h⟩, ⟨_, h⟩]
  · rintro ⟨e, h⟩
    cases e
    exacts [.inl (.inl h), .inl (.inr h), .inr h]

theorem State.oldestFor_isSome_iff (s : State) (block : Nat) :
    (s.oldestFor block).isSome = true ↔ ∃ j ∈ s.rt.acceptOrder, ∃ old, s.slot j = some old ∧ old.block = block := by
  rw [State.oldestFor, List.find?_isSome]
  refine exists_congr fun j => and_congr_right fun _ => ?_
  cases s.slot j <;> simp

/-- Settles O9: the slot's record is the request's, WAITING when something of R35 holds it back. -/
theorem memoryRequestTakesSlot : Obligations.MemoryRequestTakesSlot := by
  unfold Obligations.MemoryRequestTakesSlot
  intro s r i hwf hready hi hrefusal haperture
  obtain ⟨hacc, htag⟩ := State.acceptsTag_spec hready
  have hk := State.placeMemory_keeps i r s
  have hrt := State.judgeWrite_rt r false (s.placeMemory i r)
  have hslot (j : SlotId) : ((s.placeMemory i r).judgeWrite r false).slot j = (s.placeMemory i r).slot j :=
    (State.judgeWrite_keeps r false _).slot (by decide) j
  obtain ⟨hread, hwrite⟩ := State.judgeWrite_session r false hk
  refine ⟨(s.placeMemory i r).judgeWrite r false, r.slot
      (if (s.oldestFor r.block).isSome || s.held r.block || s.draining r.block then .waiting else .ready) .memory
      (some (s.regions.lookup r.block).mode), ?_, ?_, fun j hj => ?_, rfl, rfl, rfl, rfl, rfl, rfl, rfl, rfl, rfl, ?_, ?_, ?_,
    ?_, ?_, ?_, ?_, ?_, hread, hwrite, (State.judgeWrite_keeps r false _).after (by decide) (hk.mono (by decide))⟩
  · rw [exec_requestAccept hwf, State.accept_of_memory hacc hi (State.check_of_memory htag hrefusal haperture)]
  · rw [hslot]; exact State.slot_setSlot_self i _ s
  · rw [hslot]; exact (State.slot_setSlot i j _ s).trans (if_neg hj)
  · simp only [Request.slot, Option.some.injEq, and_comm]
  · rw [← State.oldestFor_isSome_iff, ← State.held_iff]
    have hdrains : (∃ e, (s.lock e).draining = some r.block) ↔ s.draining r.block = true := (State.draining_iff s r.block).symm
    rw [hdrains]
    simp only [Request.slot, Bool.or_eq_true, or_assoc]
    split <;> simp_all
  · simp only [Request.slot]
    split <;> simp
  all_goals rw [hrt]; rfl

/-! ## Aperture accesses (R30, R195, R196) -/

/-- Check by check, an access is taken when it is a read or a whole-word write of a word that has that access (R195). -/
theorem takesAccess_iff {r : Request} (hwf : r.wellFormed = true) (k : Nat) :
    takesAccess r k = true ↔ r.length.val = 1 ∧
      (r.access = .read ∧ (wordAccess k = .readOnly ∨ wordAccess k = .readWrite)
        ∨ ∃ v, r.access = .write [Enables.all] [v] ∧ (wordAccess k = .writeOnly ∨ wordAccess k = .readWrite)) := by
  unfold takesAccess
  rw [Bool.and_eq_true, beq_iff_eq]
  refine and_congr_right fun hlength => ?_
  cases hr : r.access with
  | read => cases wordAccess k <;> simp
  | write enables data =>
    have hdata : enables.length = 1 ∧ data.length = 1 := by
      simpa [Request.wellFormed, Access.wellFormed, hr, hlength] using hwf
    obtain ⟨v, rfl⟩ := List.length_eq_one_iff.1 hdata.2
    cases wordAccess k <;> simp

theorem State.restartIdle_session {s : State} (h : s.session.state = .opened) :
    s.restartIdle.session = { s.session with idleTimer := s.session.restarted } := by
  rw [State.restartIdle, if_pos h]

section Access

variable {s : State} {i : SlotId} {r : Request} {k : Nat}

theorem State.accessAperture_of_refused (hk : r.address.toNat = s.session.base / 8 + k) (h : takesAccess r k = false) :
    s.accessAperture i r = (s.placeRefused i r .aperture .apertureInvalid).restartIdle := by
  have hk' : r.address.toNat - s.session.base / 8 = k := by omega
  simp [State.accessAperture, hk', h]

theorem State.accessAperture_of_read (hk : r.address.toNat = s.session.base / 8 + k) (h : takesAccess r k = true)
    (hr : r.access = .read) : s.accessAperture i r = s.takeRead i r k := by
  have hk' : r.address.toNat - s.session.base / 8 = k := by omega
  simp [State.accessAperture, hk', h, hr, Access.data]

/-- An access CS refuses changes nothing else but the idle timer (R192, R195). -/
theorem State.accessRefused (hready : s.apertureReady r.tag = true) :
    AnsweredAt i (refusedResponse r.tag .apertureInvalid) s (s.placeRefused i r .aperture .apertureInvalid).restartIdle
      ∧ (s.placeRefused i r .aperture .apertureInvalid).restartIdle.session =
          { s.session with idleTimer := s.session.restarted }
      ∧ Keeps [.rt, .session] s (s.placeRefused i r .aperture .apertureInvalid).restartIdle := by
  obtain ⟨hacc, -, hopen, -⟩ := State.apertureReady_spec hready
  have hk := State.placeRefused_keeps i r .aperture .apertureInvalid s
  have hsession := hk.session (by decide)
  refine ⟨(State.placeRefused_at (State.accepting_spec hacc).2.2).congr rfl (State.restartIdle_rt _), ?_,
    (State.restartIdle_keeps _).after (by decide) (hk.mono (by decide))⟩
  rw [State.restartIdle_session (by rw [hsession, hopen]), hsession]

theorem State.takeRead_taken (hready : s.apertureReady r.tag = true) (hr : r.access = .read) :
    AnsweredAt i { tag := r.tag, status := .clean, reason := none, failedMask := some 0, words := [s.readWord k] } s
        (s.takeRead i r k)
      ∧ (s.takeRead i r k).session = { s.session with idleTimer := s.session.restarted }
      ∧ Keeps [.rt, .session] s (s.takeRead i r k) := by
  obtain ⟨hacc, -, hopen, -⟩ := State.apertureReady_spec hready
  have hk := State.placeAnswered_keeps i
    { r.slot .answered .aperture none with status := some .clean, words := [s.readWord k] } s
  have hsession := hk.session (by decide)
  have hresponse : Slot.response { r.slot .answered .aperture none with status := some .clean, words := [s.readWord k] } =
      { tag := r.tag, status := .clean, reason := none, failedMask := some 0, words := [s.readWord k] } := by
    simp [Slot.response, Request.slot, hr, Access.kind]
  have hat := State.placeAnswered_at (i := i) (s := s)
    (sl := { r.slot .answered .aperture none with status := some .clean, words := [s.readWord k] }) rfl
    (by rw [hresponse]; rfl) (State.accepting_spec hacc).2.2
  rw [hresponse] at hat
  refine ⟨hat.congr rfl (State.restartIdle_rt _), ?_, (State.restartIdle_keeps _).after (by decide) (hk.mono (by decide))⟩
  rw [State.takeRead, State.restartIdle_session (by rw [hsession, hopen]), hsession]

/-- A whole-word write at word k is the request of word k's row. -/
theorem State.eq_wordWrite (hready : s.apertureReady r.tag = true) (hk : k < 64) (ha : r.address.toNat = s.session.base / 8 + k)
    (hlength : r.length.val = 1) {v : Word} (hr : r.access = .write [Enables.all] [v]) : r = s.wordWrite r.tag k v := by
  have haddress : r.address = BitVec.ofNat 32 (s.session.base / 8 + k) :=
    BitVec.eq_of_toNat_eq (by rw [ha, State.wordAddress hready hk])
  have hlen : r.length = 1 := Fin.ext hlength
  cases r
  simp_all [State.wordWrite]

end Access

/-- Settles O10: reads and refused accesses by the checks of R195, and a whole-word write as its word's row. -/
theorem apertureAccessAnswered : Obligations.ApertureAccessAnswered := by
  unfold Obligations.ApertureAccessAnswered
  refine ⟨fun s r i k hwf hready hi hm hk ha => ?_, fun s tag word length enables data i hwf hready hi hlength hplace => ?_⟩
  · have haccept := State.accept_aperture hready hk ha hm hi
    refine ⟨fun htakes hread => ?_, fun htakes => ?_, takesAccess_iff hwf k, fun c v hr hlength hrow => ?_⟩
    · exact ⟨_, by rw [exec_requestAccept hwf, haccept, State.accessAperture_of_read ha htakes hread],
        State.takeRead_taken hready hread⟩
    · exact ⟨_, by rw [exec_requestAccept hwf, haccept, State.accessAperture_of_refused ha htakes], State.accessRefused hready⟩
    · rw [exec_of_wordRow hrow, exec_requestAccept hwf, State.acceptWordWrite, ← State.eq_wordWrite hready hk ha hlength hr]
  · have ha : (s.apertureRequest tag word length enables data).address.toNat = s.session.base / 8 + word.val :=
      State.wordAddress hready word.isLt
    have hmod := (State.apertureReady_spec hready).2.2.2.1
    have hm : Request.malformed (s.apertureRequest tag word length enables data) = false := by
      have hfirst : (s.apertureRequest tag word length enables data).firstWord = word.val % 8 := by
        simp only [Request.firstWord, ha]; omega
      have hlen : (s.apertureRequest tag word length enables data).length = length := rfl
      rw [Bool.eq_false_iff, ne_eq, Request.malformed_iff, hfirst, hlen]
      omega
    refine ⟨fun c v hrow hone henables hdata => ⟨?_, _, exec_apertureWrite hwf tag word s⟩, fun hbad => ?_⟩
    · have haccess : (s.apertureRequest tag word length enables data).access = .write [Enables.all] [v] := by
        rw [← henables, ← hdata]; rfl
      have heq : s.apertureRequest tag word length enables data = s.wordWrite tag word.val v :=
        State.eq_wordWrite hready word.isLt ha hone haccess
      rw [exec_of_wordRow hrow, exec_apertureWrite hwf, State.acceptWordWrite, heq]
    · have htakes : takesAccess (s.apertureRequest tag word length enables data) word.val = false := by
        rw [Bool.eq_false_iff]
        intro htakes
        obtain ⟨hone, ⟨hread, -⟩ | ⟨v, hwrite, hword⟩⟩ := (takesAccess_iff (r := s.apertureRequest tag word length enables data) hwf _).1 htakes
        · exact absurd hread (by simp [State.apertureRequest])
        · have henables : enables = [Enables.all] := (Access.write.inj hwrite).1
          rcases hbad with h | h | h | h
          · exact h hone
          · exact h henables
          · simp [h] at hword
          · simp [h] at hword
      refine ⟨_, ?_, State.accessRefused (r := s.apertureRequest tag word length enables data) hready⟩
      rw [exec_apertureWrite hwf, State.accept_aperture (r := s.apertureRequest tag word length enables data) hready word.isLt ha hm hi,
        State.accessAperture_of_refused ha htakes]

/-! ## The knock and the closes (R190 to R193) -/

theorem Session.isKnock_iff (c : Session) (r : Request) (refused : Bool) (v : Word) :
    c.isKnock r refused v = true ↔ refused = false ∧ r.length.val = 1 ∧ r.address.toNat = c.base / 8 + 63
      ∧ r.access = .write [Enables.all] [v] := by
  simp [Session.isKnock, Session.knockWord, and_assoc]

theorem Session.isKnock_unique {c : Session} {r : Request} {refused : Bool} {v w : Word} (h : c.isKnock r refused v = true)
    (h' : c.isKnock r refused w = true) : v = w := by
  have ha := ((Session.isKnock_iff c r refused v).1 h).2.2.2.symm.trans ((Session.isKnock_iff c r refused w).1 h').2.2.2
  simpa using ha

theorem Session.judge_of_closed {c : Session} (h : c.state = .closed) (r : Request) (refused : Bool) :
    c.judge true r refused = if c.isKnock r refused Word.ones then { c with state := .armed } else c := by
  simp [Session.judge, h]

theorem Session.judge_of_armed {c : Session} (h : c.state = .armed) (r : Request) (refused : Bool) :
    c.judge true r refused =
      if c.isKnock r refused Word.ones then c
      else if c.isKnock r refused 0 then { c with state := .opened, idleTimer := c.restarted }
      else { c with state := .closed } := by
  simp [Session.judge, h]

theorem State.closeSession_raise_moved (s : State) :
    AlertsMoved [.sessionExpired] s (s.closeSession.raise .sessionExpired) :=
  (AlertsMoved.of_keeps (State.closeSession_keeps s) (by decide) (by decide)).trans (State.raise_moved _ _)

/-- Settles O11: the knock's transitions one by one, and the two closes. -/
theorem sessionFollowsKnockAndCloses : Obligations.SessionFollowsKnockAndCloses := by
  unfold Obligations.SessionFollowsKnockAndCloses
  refine ⟨fun c r refused => ?knock, fun s tag v hready => ?close, fun s hopen htimer => ?expiry⟩
  case knock =>
    have hones : Word.ones = 0xFFFFFFFFFFFFFFFF#64 := by decide
    have hdiffer : Word.ones ≠ 0 := by decide
    simp only [← Session.isKnock_iff, ← hones]
    refine ⟨rfl, fun h => by simp [Session.judge, h], fun h => ?_, fun h => ?_⟩
    · rw [Session.judge_of_closed h]
      exact ⟨fun hk => if_pos hk, fun hk => if_neg hk⟩
    · rw [Session.judge_of_armed h]
      refine ⟨fun hk => ?_, fun hk => if_pos hk, fun hk hk' => ?_⟩
      · rw [if_neg fun hn => hdiffer (Session.isKnock_unique hn hk), if_pos hk]; rfl
      · rw [if_neg hk', if_neg hk]
  case close =>
    have haccess : wordAccess 62 = .writeOnly ∨ wordAccess 62 = .readWrite := by decide
    exact ⟨s.closeSession, _, rfl, State.acceptWordWrite_taken hready (by decide) haccess rfl rfl rfl, rfl⟩
  case expiry =>
    have hexec : exec .sessionIdleExpiry s = .next (s.closeSession.raise .sessionExpired) := by
      change execSessionIdleExpiry s = _
      unfold execSessionIdleExpiry
      rw [hopen, htimer]
    exact ⟨_, hexec, rfl, rfl, State.closeSession_raise_moved s,
      (State.raise_keeps _ _).after (by decide) ((State.closeSession_keeps s).mono (by decide))⟩

end Sys2Proof.Machine
end

section
/-! The arbiter's choice (R103, R104), the block lock set's grants (R39 to R42), and what a freed block goes to. -/

namespace Sys2Proof.Machine

open Sys2Proof

/-! ## The arbiter (R103, R104) -/

theorem State.hasOps_eq_false_iff (s : State) (e : Engine) :
    s.hasOps e = false ↔ ∀ r, ∀ x ∈ (s.port r).list, x.op.owner ≠ .engine e := by
  simp only [State.hasOps, List.any_eq_false]
  exact ⟨fun h r => by simpa using h r (Replica.mem_all r), fun h r _ => by simpa using h r⟩

theorem State.engineCandidate_iff (s : State) (e : Engine) :
    s.engineCandidate e = true ↔ (s.lock e).held.isSome = true ∧ (∃ named, s.engineOp e = .ready named) ∧ s.hasOps e = false := by
  simp only [State.engineCandidate, Bool.and_eq_true, Bool.not_eq_true', and_assoc]
  cases s.engineOp e <;> simp

section Arbiter

variable {s : State}

theorem State.arbiter_of_offered {i : SlotId} (hi : s.offered = some i) (h : s.topEngine = none ∨ s.ports.runCount < 16) :
    s.arbiter = some (.upstream i) := by
  unfold State.arbiter
  rw [hi]
  cases htop : s.topEngine with
  | none => rfl
  | some e => exact if_pos (h.resolve_left (by simp [htop]))

theorem State.arbiter_of_topEngine {e : Engine} (he : s.topEngine = some e) (h : s.offered = none ∨ 16 ≤ s.ports.runCount) :
    s.arbiter = some (.engine e) := by
  unfold State.arbiter
  rw [he]
  cases hoffered : s.offered with
  | none => rfl
  | some i => exact if_neg (Nat.not_lt.2 (h.resolve_left (by simp [hoffered])))

theorem State.arbiter_of_nobody (hi : s.offered = none) (he : s.topEngine = none) : s.arbiter = none := by
  unfold State.arbiter
  rw [hi, he]

/-- A slot can be offered when it is READY and no claim is pending on its block, or when it awaits its fallback grant (R36). -/
theorem State.offerable_iff (s : State) (i : SlotId) :
    s.offerable i = true ↔ ∃ sl, s.slot i = some sl
      ∧ ((sl.state = .ready ∧ ∀ e, (s.lock e).claim ≠ some sl.block)
        ∨ (sl.state = .issued ∧ sl.fastPhase = .fallback ∧ sl.awaiting = true)) := by
  have hclaimed (block : Nat) : s.claimed block = false ↔ ∀ e, (s.lock e).claim ≠ some block := by
    simp only [State.claimed, State.claims, Bool.or_eq_false_iff, beq_eq_false_iff_ne]
    exact ⟨fun ⟨⟨hr, hc⟩, hs⟩ e => by cases e <;> assumption, fun h => ⟨⟨h _, h _⟩, h _⟩⟩
  unfold State.offerable
  cases s.slot i with
  | none => simp
  | some sl => simp [hclaimed, and_assoc]

theorem State.offered_iff (s : State) (i : SlotId) :
    s.offered = some i ↔ ∃ pre post, s.rt.acceptOrder = pre ++ i :: post ∧ s.offerable i = true
      ∧ ∀ j ∈ pre, ¬s.offerable j = true := by
  rw [State.offered, List.find?_eq_some_iff_append]
  constructor
  · rintro ⟨hi, pre, post, horder, hpre⟩
    exact ⟨pre, post, horder, hi, fun j hj => by simpa using hpre j hj⟩
  · rintro ⟨pre, post, horder, hi, hpre⟩
    exact ⟨hi, pre, post, horder, fun j hj => by simpa using hpre j hj⟩

theorem State.offered_eq_none_iff (s : State) : s.offered = none ↔ ∀ i ∈ s.rt.acceptOrder, ¬s.offerable i = true :=
  List.find?_eq_none

end Arbiter

/-- Settles O14: candidates, the order of engines and upstream side, and the slot offered. -/
theorem arbiterFollowsItsOrder : Obligations.ArbiterFollowsItsOrder := by
  unfold Obligations.ArbiterFollowsItsOrder
  intro s
  refine ⟨fun e => ?_, fun i => State.arbiter_of_offered, fun e => State.arbiter_of_topEngine, State.arbiter_of_nobody,
    fun h => ?_, fun h h' => ?_, fun h h' h'' => ?_, fun h => ?_, fun i => ?_, ?_⟩
  · rw [State.engineCandidate_iff, State.hasOps_eq_false_iff]
  · simp [State.topEngine, h]
  · simp [State.topEngine, h, h']
  · simp [State.topEngine, h, h', h'']
  · simp [State.topEngine, h]
  · simp only [State.offered_iff, State.offerable_iff]
  · simp only [State.offered_eq_none_iff, State.offerable_iff]

/-! ## A granted claim (R39, R41) -/

/-- The state of a grant before the engine enters its next phase. -/
def State.claimLocked (e : Engine) (block : Nat) (s : State) : State :=
  let s := s.setLock e { s.lock e with held := some block, claim := none }
  { s with rt := { s.rt with slots := mapVector (holdBack block) s.rt.slots } }

/-- The state of a grant after another engine's claim has refused the walker's (R41). -/
def State.scrubRefused (e : Engine) (block : Nat) (s : State) : State :=
  if e != .scrub && s.claims .scrub block then s.skipScrub else s

theorem State.grantClaim_eq (e : Engine) (block : Nat) (s : State) :
    s.grantClaim e block = ((s.claimLocked e block).scrubRefused e block).engineGranted e := rfl

theorem State.claimLocked_keeps (e : Engine) (block : Nat) (s : State) : Keeps [.rt] s (s.claimLocked e block) :=
  Keeps.with_rt (by decide) (State.setLock_keeps e _ s)

theorem State.claimLocked_lock (e e' : Engine) (block : Nat) (s : State) :
    (s.claimLocked e block).lock e' = if e' = e then { s.lock e with held := some block, claim := none } else s.lock e' :=
  State.lock_setLock e e' _ s

theorem State.skipScrub_lock (e : Engine) (s : State) :
    s.skipScrub.lock e = if e = .scrub then { s.lock .scrub with claim := none } else s.lock e := State.lock_setLock .scrub e _ s

theorem State.claims_iff (s : State) (e : Engine) (block : Nat) : s.claims e block = true ↔ (s.lock e).claim = some block := by
  simp [State.claims]

theorem State.scrubRefused_of_claim {e : Engine} {block : Nat} {s : State} (he : e ≠ .scrub)
    (h : (s.lock .scrub).claim = some block) : s.scrubRefused e block = s.skipScrub :=
  if_pos (by simp [he, State.claims, h])

theorem State.scrubRefused_of_no_claim {e : Engine} {block : Nat} {s : State}
    (h : e = .scrub ∨ (s.lock .scrub).claim ≠ some block) : s.scrubRefused e block = s :=
  if_neg (by rcases h with h | h <;> simp [State.claims, h])

theorem State.scrubRefused_keeps (e : Engine) (block : Nat) (s : State) : Keeps [.rt, .scrub] s (s.scrubRefused e block) := by
  unfold State.scrubRefused
  split
  · exact State.skipScrub_keeps s
  · exact Keeps.refl _ s

/-- The locks after a grant: the engine's lock holds the block, and a walker's claim on it is withdrawn. -/
theorem State.grantClaim_lock (e e' : Engine) (block : Nat) (s : State) :
    (s.grantClaim e block).lock e' =
      if e' = e then { s.lock e with held := some block, claim := none }
      else if e' = .scrub ∧ (s.lock .scrub).claim = some block then { s.lock .scrub with claim := none }
      else s.lock e' := by
  rw [State.grantClaim_eq, (State.engineGranted_keeps e _).lock (by decide)]
  have hlocked := State.claimLocked_lock e (block := block) (s := s)
  by_cases h : e ≠ .scrub ∧ (s.lock .scrub).claim = some block
  · obtain ⟨he, hclaim⟩ := h
    have hscrub : (s.claimLocked e block).lock .scrub = s.lock .scrub := (hlocked .scrub).trans (if_neg he.symm)
    rw [State.scrubRefused_of_claim he (hscrub ▸ hclaim), State.skipScrub_lock, hscrub, hlocked]
    by_cases he' : e' = .scrub
    · simp [he', he.symm, hclaim]
    · simp [he']
  · rw [State.scrubRefused_of_no_claim, hlocked]
    · by_cases he' : e' = .scrub
      · subst he'
        grind
      · simp [he']
    · grind

theorem State.grantClaim_lock_self (e : Engine) (block : Nat) (s : State) :
    (s.grantClaim e block).lock e = { s.lock e with held := some block, claim := none } := by
  rw [State.grantClaim_lock, if_pos rfl]

theorem State.grantClaim_lock_other {e e' : Engine} (block : Nat) (s : State) (h : e' ≠ e) (hs : e' ≠ .scrub) :
    (s.grantClaim e block).lock e' = s.lock e' := by
  rw [State.grantClaim_lock, if_neg h, if_neg fun hn => hs hn.1]

/-- The engine's next phase sees the state before the grant but for the request table. -/
theorem State.grantClaim_repair (block : Nat) (s : State) :
    (s.grantClaim .repair block).repair =
      { s.repair with phase := .read, op := readyOp (s.repair.sources.inter s.voting) } := by
  have hk : Keeps [.rt, .scrub] s ((s.claimLocked .repair block).scrubRefused .repair block) :=
    (State.scrubRefused_keeps _ _ _).after (by decide) ((State.claimLocked_keeps _ _ s).mono (by decide))
  rw [State.grantClaim_eq]
  simp only [State.engineGranted, hk.repair (by decide), hk.voting (by decide)]

theorem State.grantClaim_copy (block : Nat) (s : State) :
    (s.grantClaim .copy block).copy = (s.engineGranted .copy).copy := by
  have hk : Keeps [.rt, .scrub] s ((s.claimLocked .copy block).scrubRefused .copy block) :=
    (State.scrubRefused_keeps _ _ _).after (by decide) ((State.claimLocked_keeps _ _ s).mono (by decide))
  rw [State.grantClaim_eq]
  simp only [State.engineGranted, hk.copy (by decide), hk.voting (by decide)]
  split <;> rfl

theorem State.grantClaim_copy_of_ne {e : Engine} (he : e ≠ .copy) (block : Nat) (s : State) :
    (s.grantClaim e block).copy = s.copy := by
  have hk : Keeps [.rt, .scrub] s ((s.claimLocked e block).scrubRefused e block) :=
    (State.scrubRefused_keeps _ _ _).after (by decide) ((State.claimLocked_keeps _ _ s).mono (by decide))
  rw [State.grantClaim_eq, ← hk.copy (by decide)]
  cases e with
  | copy => exact absurd rfl he
  | repair => rfl
  | scrub => rfl

theorem State.engineGranted_scrub_of_ne {e : Engine} (he : e ≠ .scrub) (s : State) : (s.engineGranted e).scrub = s.scrub := by
  cases e with
  | scrub => exact absurd rfl he
  | repair => rfl
  | copy =>
    unfold State.engineGranted
    simp only
    split <;> rfl

theorem State.grantClaim_scrub_self (block : Nat) (s : State) :
    (s.grantClaim .scrub block).scrub = { s.scrub with state := .reading, op := .ready s.voting } := by
  rw [State.grantClaim_eq, State.scrubRefused_of_no_claim (.inl rfl)]
  rfl

/-- The walker under another engine's grant: its visit ends when it claimed the block, else it stays (R41, R136). -/
theorem State.grantClaim_scrub_of_ne {e : Engine} (he : e ≠ .scrub) (block : Nat) (s : State) :
    (s.grantClaim e block).scrub =
      if (s.lock .scrub).claim = some block then s.scrub.endVisit (s.spanBlocks - 1) else s.scrub := by
  have hscrub : (s.claimLocked e block).lock .scrub = s.lock .scrub := (State.claimLocked_lock e .scrub block s).trans (if_neg he.symm)
  rw [State.grantClaim_eq, State.engineGranted_scrub_of_ne he]
  split
  · rename_i h
    rw [State.scrubRefused_of_claim he (hscrub ▸ h)]
    rfl
  · rename_i h
    rw [State.scrubRefused_of_no_claim (.inr (hscrub ▸ h))]
    rfl

/-! ## BLOCK_CLAIM_GRANT (R39 to R41) -/

section BlockClaimGrant

variable {s : State} {e : Engine} {block : Nat} (hclaim : (s.lock e).claim = some block)
include hclaim

theorem exec_blockClaimGrant_of_wins (h : s.claimWins e block = true) :
    exec (.blockClaimGrant e) s = .next (s.grantClaim e block).settle := by
  change execBlockClaimGrant e s = _
  unfold execBlockClaimGrant
  rw [hclaim]
  exact if_pos h

theorem exec_blockClaimGrant_of_refused (h : s.claimWins e block = false) (he : e = .scrub)
    (hheld : s.OtherHolds e block ∨ s.Drains block) : exec (.blockClaimGrant e) s = .next s.skipScrub := by
  change execBlockClaimGrant e s = _
  unfold execBlockClaimGrant
  rw [hclaim]
  simp only [h, Bool.false_eq_true, if_false]
  refine if_pos ⟨he, ?_⟩
  rw [Bool.or_eq_true, State.heldByOther_iff, State.draining_iff]
  exact he ▸ hheld

theorem exec_blockClaimGrant_of_pending (h : s.claimWins e block = false)
    (hheld : e = .scrub → ¬s.OtherHolds e block ∧ ¬s.Drains block) : exec (.blockClaimGrant e) s = .next s := by
  change execBlockClaimGrant e s = _
  unfold execBlockClaimGrant
  rw [hclaim]
  simp only [h, Bool.false_eq_true, if_false]
  refine if_neg fun ⟨he, hn⟩ => ?_
  rw [Bool.or_eq_true, State.heldByOther_iff, State.draining_iff] at hn
  exact not_or.2 (he ▸ hheld he) hn

end BlockClaimGrant

theorem holdBack_eq (block : Nat) (x : Option Slot) :
    holdBack block x = x.map fun sl =>
      if sl.route = .memory ∧ sl.block = block ∧ sl.state = .ready then { sl with state := .waiting } else sl := by
  cases x <;> simp [holdBack, and_assoc]

theorem readyOp_eq (named : ReplicaSet) :
    readyOp named = if named.isEmpty then .out ⟨none, none, none⟩ else .ready named := rfl

/-- Settles O28: a claim that wins is granted, a walker's claim on a block that is not free is refused, any other waits. -/
theorem claimGrantLocksBlock : Obligations.ClaimGrantLocksBlock := by
  unfold Obligations.ClaimGrantLocksBlock
  intro s e block hclaim
  have hloses (h : ¬s.ClaimFree e block ∨ s.Outranked e block) : s.claimWins e block = false := by
    rw [Bool.eq_false_iff, ne_eq, State.claimWins_iff]
    tauto
  refine ⟨fun hfree hrank => ⟨s.grantClaim e block, exec_blockClaimGrant_of_wins hclaim
    ((State.claimWins_iff s e block).2 ⟨hfree, hrank⟩), rfl, State.grantClaim_lock_self e block s,
    fun e' h hs => State.grantClaim_lock_other block s h hs, fun i => by rw [State.grantClaim_slot, holdBack_eq], fun he => ?repair,
    fun n he hkind => ?fill, fun r he hkind => ?rebuild, fun he => ?scrub, fun he hscrub => ?refused, fun he hscrub => ?other,
    State.grantClaim_keeps e block s⟩, fun he hheld => ?skipped, fun h hheld => exec_blockClaimGrant_of_pending hclaim (hloses h) hheld⟩
  case repair =>
    subst he
    rw [State.grantClaim_repair]
    exact ⟨rfl, State.grantClaim_copy_of_ne (by decide) block s, rfl⟩
  case fill =>
    subst he
    rw [State.grantClaim_copy, State.grantClaim_repair_of_ne (by decide)]
    simp [State.engineGranted, hkind]
  case rebuild =>
    subst he
    rw [State.grantClaim_copy, State.grantClaim_repair_of_ne (by decide)]
    simp [State.engineGranted, hkind, readyOp_eq]
  case scrub =>
    subst he
    exact ⟨State.grantClaim_scrub_self block s, State.grantClaim_copy_of_ne (by decide) block s,
      State.grantClaim_repair_of_ne (by decide) block s⟩
  case refused =>
    rw [State.grantClaim_scrub_of_ne he, State.grantClaim_lock, if_pos hscrub, if_neg he.symm, if_pos ⟨rfl, hscrub⟩]
    exact ⟨rfl, rfl⟩
  case other =>
    rw [State.grantClaim_scrub_of_ne he, State.grantClaim_lock, if_neg hscrub, if_neg he.symm, if_neg fun h => hscrub h.2]
    exact ⟨rfl, rfl⟩
  case skipped =>
    have hlost : s.claimWins e block = false := hloses (.inl fun h => hheld.elim h.2.1 h.2.2)
    refine ⟨s.skipScrub, exec_blockClaimGrant_of_refused hclaim hlost he hheld, rfl, ?_, ?_, ?_, rfl, State.skipScrub_keeps s⟩
    all_goals rw [State.skipScrub_lock]; rfl

end Sys2Proof.Machine
end

section
/-! What a freed block goes to, what a released lock and an abandoned engine leave, and what a claim grants first (R35, R38 to R42,
R91). -/

namespace Sys2Proof.Machine

open Sys2Proof

/-! ## Freed blocks (R35, R38, R40) -/

section FreeBlock

variable {s : State} {block : Nat}

theorem State.freeBlock_of_claim_repair (h : (s.lock .repair).claim = some block) (hfree : s.ClaimFree .repair block) :
    s.freeBlock block = s.grantClaim .repair block :=
  if_pos (by rw [Bool.and_eq_true, State.claims_iff, State.canGrant_iff]; exact ⟨h, hfree⟩)

theorem State.freeBlock_of_claim_copy (hr : ¬((s.lock .repair).claim = some block ∧ s.ClaimFree .repair block))
    (h : (s.lock .copy).claim = some block) (hfree : s.ClaimFree .copy block) : s.freeBlock block = s.grantClaim .copy block := by
  rw [State.freeBlock, if_neg, if_pos]
  all_goals simp only [Bool.and_eq_true, State.claims_iff, State.canGrant_iff]
  · exact ⟨h, hfree⟩
  · exact hr

theorem State.freeBlock_of_claim_scrub (hr : ¬((s.lock .repair).claim = some block ∧ s.ClaimFree .repair block))
    (hc : ¬((s.lock .copy).claim = some block ∧ s.ClaimFree .copy block)) (h : (s.lock .scrub).claim = some block)
    (hfree : s.ClaimFree .scrub block) : s.freeBlock block = s.grantClaim .scrub block := by
  rw [State.freeBlock, if_neg, if_neg, if_pos]
  all_goals simp only [Bool.and_eq_true, State.claims_iff, State.canGrant_iff]
  · exact ⟨h, hfree⟩
  · exact hc
  · exact hr

theorem State.freeBlock_of_nobody (h : ∀ e, ¬((s.lock e).claim = some block ∧ s.ClaimFree e block)) :
    s.freeBlock block = s.promote block := by
  rw [State.freeBlock, if_neg, if_neg, if_neg]
  all_goals
    rw [Bool.and_eq_true, State.claims_iff, State.canGrant_iff]
    exact h _

theorem State.oldestFor_eq_none (h : ∀ i ∈ s.rt.acceptOrder, ∀ sl, s.slot i = some sl → sl.block ≠ block) :
    s.oldestFor block = none := by
  refine List.find?_eq_none.2 fun i hi => ?_
  have := h i hi
  cases hsl : s.slot i <;> simp_all

theorem State.oldestFor_eq_some {pre post : List SlotId} {i : SlotId} {sl : Slot} (horder : s.rt.acceptOrder = pre ++ i :: post)
    (hsl : s.slot i = some sl) (hb : sl.block = block) (hpre : ∀ j ∈ pre, ∀ old, s.slot j = some old → old.block ≠ block) :
    s.oldestFor block = some i := by
  refine List.find?_eq_some_iff_append.2 ⟨by simp [hsl, hb], pre, post, horder, fun j hj => ?_⟩
  have := hpre j hj
  cases hold : s.slot j <;> simp_all

theorem State.promote_of_none (h : s.oldestFor block = none) : s.promote block = s := by
  rw [State.promote, h]

/-- The oldest request for the block becomes READY when it waits and nothing holds the block (R35). -/
theorem State.promote_of_oldest {i : SlotId} {sl : Slot} (h : s.oldestFor block = some i) (hsl : s.slot i = some sl) :
    (sl.state = .waiting → (∀ e, (s.lock e).held ≠ some block) → ¬s.Drains block →
        s.promote block = s.setSlot i (some { sl with state := .ready }))
      ∧ (sl.state ≠ .waiting ∨ (∃ e, (s.lock e).held = some block) ∨ s.Drains block → s.promote block = s) := by
  have hpromote : s.promote block =
      if sl.state == .waiting && !s.held block && !s.draining block then s.setSlot i (some { sl with state := .ready }) else s := by
    simp only [State.promote, h, hsl]
  have hcond : (sl.state == .waiting && !s.held block && !s.draining block) = true ↔
      sl.state = .waiting ∧ (¬∃ e, (s.lock e).held = some block) ∧ ¬s.Drains block := by
    rw [← State.held_iff, ← State.draining_iff]
    simp [and_assoc]
  rw [hpromote]
  exact ⟨fun hw hheld hdrains => if_pos (hcond.2 ⟨hw, fun ⟨e, he⟩ => hheld e he, hdrains⟩), fun hn => if_neg (by rw [hcond]; tauto)⟩

end FreeBlock

/-! ## Released locks and abandoned work (R42, R91) -/

theorem State.releaseLock_of_none {s : State} {e : Engine} (h : (s.lock e).held = none) : s.releaseLock e = s := by
  unfold State.releaseLock
  rw [h]

section Release

variable {s : State} {e : Engine} {block : Nat} (h : (s.lock e).held = some block)
include h

theorem State.releaseLock_of_ops (hops : s.OpsRemain e block) :
    s.releaseLock e = s.setLock e { held := none, claim := none, draining := some block } := by
  unfold State.releaseLock
  rw [h]
  exact if_pos ((State.hasOpsFor_iff s e block).2 hops)

theorem State.releaseLock_of_no_ops (hops : ¬s.OpsRemain e block) :
    s.releaseLock e = (s.setLock e { s.lock e with held := none, claim := none }).freeBlock block := by
  unfold State.releaseLock
  rw [h]
  exact if_neg (mt (State.hasOpsFor_iff s e block).1 hops)

end Release

/-- The state in which an abandoned engine's lock is released: its entries are marked, its claim is withdrawn (R91, R40). -/
def State.withdrawn (e : Engine) (s : State) : State := (s.marked e).setLock e { s.lock e with claim := none }

theorem State.abandon_eq_releaseLock (e : Engine) (s : State) : s.abandon e = (s.withdrawn e).releaseLock e := rfl

theorem State.withdrawn_port (e : Engine) (s : State) (r : Replica) : (s.withdrawn e).port r = (s.port r).markGone e := by
  change (s.marked e).port r = _
  simp [State.marked, State.port]

theorem State.withdrawn_lock (e e' : Engine) (s : State) :
    (s.withdrawn e).lock e' = if e' = e then { s.lock e with claim := none } else s.lock e' := State.lock_setLock e e' _ (s.marked e)

theorem State.withdrawn_keeps (e : Engine) (s : State) : Keeps [.ports, .rt] s (s.withdrawn e) :=
  (State.setLock_keeps _ _ _).after (by decide) (Keeps.with_ports (by decide) (Keeps.refl _ s))

theorem Port.markGone_eq (e : Engine) (p : Port) :
    p.markGone e = { p with list := p.list.map fun x => { x with ownerGone := x.ownerGone || x.op.owner == .engine e } } := by
  unfold Port.markGone
  congr 1
  refine List.map_congr_left fun x _ => ?_
  cases howner : x.op.owner == .engine e <;> simp

theorem State.goneLeft_of_last {s : State} {e : Engine} {block : Nat} (h : (s.lock e).draining = some block)
    (hops : ¬s.OpsRemain e block) :
    s.goneLeft e block = (s.setLock e { s.lock e with draining := none }).freeBlock block :=
  if_pos (by simpa [h, ← State.hasOpsFor_iff] using hops)

theorem State.goneLeft_of_not_last {s : State} {e : Engine} {block : Nat}
    (h : (s.lock e).draining ≠ some block ∨ s.OpsRemain e block) : s.goneLeft e block = s :=
  if_neg (by simpa [← State.hasOpsFor_iff, or_iff_not_imp_left] using h)

/-! ## Claims (R40) -/

theorem State.grantEarlier_of_wins {s : State} {e : Engine} {block : Nat} (h : (s.lock e).claim = some block)
    (hfree : s.ClaimFree e block) (hrank : ¬s.Outranked e block) : s.grantEarlier e block = s.grantClaim e block :=
  if_pos (by rw [Bool.and_eq_true, State.claims_iff, State.claimWins_iff]; exact ⟨h, hfree, hrank⟩)

theorem State.grantEarlier_of_not_wins {s : State} {e : Engine} {block : Nat}
    (h : (s.lock e).claim ≠ some block ∨ ¬s.ClaimFree e block ∨ s.Outranked e block) : s.grantEarlier e block = s :=
  if_neg (by rw [Bool.and_eq_true, State.claims_iff, State.claimWins_iff]; tauto)

/-- Settles O30: each operation of the lock set by its own test. -/
theorem freedBlocksGoToClaimsThenRequests : Obligations.FreedBlocksGoToClaimsThenRequests := by
  unfold Obligations.FreedBlocksGoToClaimsThenRequests
  have hearlier (u : State) (e : Engine) (block : Nat) :
      ((u.lock e).claim = some block → u.ClaimFree e block → ¬u.Outranked e block → u.grantEarlier e block = u.grantClaim e block)
        ∧ ((u.lock e).claim ≠ some block ∨ ¬u.ClaimFree e block ∨ u.Outranked e block → u.grantEarlier e block = u) :=
    ⟨State.grantEarlier_of_wins, State.grantEarlier_of_not_wins⟩
  refine ⟨fun s block => ⟨fun h => State.freeBlock_of_claim_repair h.1 h.2, fun hr h => State.freeBlock_of_claim_copy hr h.1 h.2,
      fun hr hc h => State.freeBlock_of_claim_scrub hr hc h.1 h.2, fun hn pre i post sl horder hsl hb hpre => ?oldest,
      fun hn hnone => ?none⟩,
    fun s e => ⟨State.releaseLock_of_none, fun b hb => ⟨State.releaseLock_of_ops hb, State.releaseLock_of_no_ops hb⟩,
      s.withdrawn e, State.abandon_eq_releaseLock e s, fun r => ?marked, rfl, rfl, ?self, fun e' he => ?others, rfl,
      State.withdrawn_keeps e s⟩,
    fun s e block => ⟨State.goneLeft_of_last, State.goneLeft_of_not_last⟩,
    fun s block => ⟨rfl, ⟨_, hearlier s .scrub block, rfl⟩, ⟨_, _, hearlier s .copy block, hearlier _ .scrub block, rfl⟩⟩⟩
  case oldest =>
    rw [State.freeBlock_of_nobody hn]
    exact State.promote_of_oldest (State.oldestFor_eq_some horder hsl hb hpre) hsl
  case none => rw [State.freeBlock_of_nobody hn, State.promote_of_none (State.oldestFor_eq_none hnone)]
  case marked => rw [State.withdrawn_port, Port.markGone_eq]
  case self => rw [State.withdrawn_lock, if_pos rfl]
  case others => rw [State.withdrawn_lock, if_neg he]

end Sys2Proof.Machine
end

section
/-! The grants of the issue arbiter: the voter list of an upstream grant (R62, R65, R66, R68, R70), the entries an op has in the issue
lists (R88, R102), and the engines' grants (R117, R119, R121, R135, R145, R151, R153). -/

namespace Sys2Proof.Machine

open Sys2Proof

/-! ## The op of a grant in the issue lists (R88, R92, R102) -/

theorem State.issue_issued (op : Op) (named : ReplicaSet) (s : State) :
    Issued op (fun r => named.get r = true) s (s.issue op named) := by
  refine ⟨rfl, fun r => ⟨fun h => ?_, fun h => ?_⟩⟩
  · rw [State.issue_port, if_pos (by simpa using h)]
  · rw [State.issue_port, if_neg (by simpa using h)]

/-- Only the issue lists and the timeout setting of the two states matter. -/
theorem Issued.congr {op : Op} {named named' : Replica → Prop} {s s' u u' : State} (h : Issued op named s u)
    (hnamed : ∀ r, named' r ↔ named r) (hs : ∀ r, s'.port r = s.port r) (hreply : s'.ports.replyTimeout = s.ports.replyTimeout)
    (hu : ∀ r, u'.port r = u.port r) (hreply' : u'.ports.replyTimeout = u.ports.replyTimeout) : Issued op named' s' u' := by
  refine ⟨hreply'.trans (h.1.trans hreply.symm), fun r => ?_⟩
  have hentry : s'.entry op = s.entry op := by simp only [State.entry, hreply]
  rw [hnamed, hs, hu, hentry]
  exact h.2 r

theorem State.grantAnswers_get (s : State) (named : ReplicaSet) (r : Replica) :
    (s.grantAnswers named).get r = if named.get r then some (s.answerAtGrant r) else none := by
  simp only [State.grantAnswers, Tri.get_ofFn]
  rfl

/-! ## The voter list of an upstream grant (R62) -/

theorem State.writeTarget_eq_some_iff (s : State) (block : Nat) (r : Replica) :
    s.writeTarget block = some r ↔ s.copy.kind = .rebuild r ∧ s.copy.state = .running ∧ block < s.copy.pointer := by
  unfold State.writeTarget
  split
  · rename_i hkind hstate
    split
    · simp_all
    · simp_all
  · simp_all

/-- The better of two replicas for a first phase: the lower score, on a tie the earlier (R68). -/
def State.before (s : State) (r q : Replica) : Prop :=
  (s.account r).score ≤ (s.account q).score ∧ ((s.account r).score = (s.account q).score → r.number ≤ q.number)

/-- The choice among the replicas numbered below `n`: none when none of them votes. -/
def State.ChoiceBelow (s : State) (n : Nat) : Option Replica → Prop
  | none => ∀ q, q.number < n → (s.account q).votes = false
  | some r => r.number < n ∧ (s.account r).votes = true ∧ ∀ q, q.number < n → (s.account q).votes = true → s.before r q

theorem Replica.number_inj {r q : Replica} (h : r.number = q.number) : r = q := by
  cases r <;> cases q <;> first | rfl | exact absurd h (by decide)

theorem Replica.number_lt (r : Replica) : r.number < 3 := by cases r <;> decide

/-- The next replica takes the choice when it votes and has a lower score than the one chosen so far. -/
theorem State.ChoiceBelow.next {s : State} {best : Option Replica} {r : Replica} (h : s.ChoiceBelow r.number best) :
    s.ChoiceBelow (r.number + 1) (s.lowerScore best r) := by
  have hcase {q : Replica} (hq : q.number < r.number + 1) : q = r ∨ q.number < r.number :=
    (Nat.lt_succ_iff_lt_or_eq.1 hq).symm.imp Replica.number_inj id
  unfold State.lowerScore
  cases hr : (s.account r).votes
  case false =>
    cases best with
    | none => exact fun q hq => (hcase hq).elim (fun he => he ▸ hr) (h q)
    | some p =>
      obtain ⟨hp, hvotes, hbest⟩ := h
      exact ⟨Nat.lt_succ_of_lt hp, hvotes, fun q hq hv => (hcase hq).elim (fun he => by simp [he, hr] at hv) fun hq => hbest q hq hv⟩
  case true =>
    have hself : s.before r r := ⟨Nat.le_refl _, fun _ => Nat.le_refl _⟩
    cases best with
    | none =>
      exact ⟨Nat.lt_succ_self _, hr, fun q hq hv => (hcase hq).elim (fun he => he ▸ hself) fun hq => by simp [h q hq] at hv⟩
    | some p =>
      obtain ⟨hp, hvotes, hbest⟩ := h
      simp only [Bool.not_true, Bool.false_eq_true, if_false]
      split
      · rename_i hlower
        refine ⟨Nat.lt_succ_self _, hr, fun q hq hv => (hcase hq).elim (fun he => he ▸ hself) fun hq => ?_⟩
        have := hbest q hq hv
        exact ⟨(Nat.le_of_lt hlower).trans this.1, fun he => absurd (he ▸ hlower) (Nat.not_lt.2 this.1)⟩
      · rename_i hlower
        refine ⟨Nat.lt_succ_of_lt hp, hvotes, fun q hq hv => (hcase hq).elim (fun he => ?_) fun hq => hbest q hq hv⟩
        exact he ▸ ⟨Nat.not_lt.1 hlower, fun _ => Nat.le_of_lt hp⟩

theorem State.firstChoice_below (s : State) : s.ChoiceBelow 3 s.firstChoice := by
  have hnone : s.ChoiceBelow Replica.a.number none := fun _ hq => absurd hq (Nat.not_lt_zero _)
  exact ((hnone.next (r := .a)).next (r := .b)).next (r := .c)

/-- The fold of R68 gives the replica that R68 describes. -/
theorem State.firstChoice_iff (s : State) (r : Replica) : s.firstChoice = some r ↔ s.isFirstChoice r := by
  have hbelow := s.firstChoice_below
  cases hchoice : s.firstChoice with
  | none =>
    rw [hchoice] at hbelow
    refine ⟨nofun, fun h => ?_⟩
    simp [State.isFirstChoice, hbelow r (Replica.number_lt r)] at h
  | some p =>
    rw [hchoice] at hbelow
    obtain ⟨-, hvotes, hbest⟩ := hbelow
    constructor
    · rintro ⟨⟩
      exact ⟨hvotes, fun q => hbest q (Replica.number_lt q)⟩
    · rintro ⟨hr, hr'⟩
      obtain ⟨hle, htie⟩ := hbest r (Replica.number_lt r) hr
      obtain ⟨hle', htie'⟩ := hr' p hvotes
      have heq := Nat.le_antisymm hle hle'
      exact congrArg some (Replica.number_inj (Nat.le_antisymm (htie heq) (htie' heq.symm)))

/-- The roles of R65, R66, R68 and R70, one replica at a time. -/
theorem State.roles_get (s : State) (sl : Slot) (r : Replica) :
    (s.entersVoter sl r → (s.roles sl).get r = some .voter) ∧ (s.entersTarget sl r → (s.roles sl).get r = some .target)
      ∧ (¬s.entersVoter sl r → ¬s.entersTarget sl r → (s.roles sl).get r = none) := by
  cases hkind : sl.kind with
  | write =>
    simp only [State.entersVoter, State.entersTarget, State.roles, hkind, Tri.get_ofFn, State.voting_get,
      State.writeTarget_eq_some_iff]
    cases (s.account r).votes <;> simp
  | read =>
    have htarget : ¬s.entersTarget sl r := fun h => by simp [State.entersTarget, hkind] at h
    have hget : ∃ c : Bool, (c = true ↔ s.entersVoter sl r) ∧ (s.roles sl).get r = if c then some .voter else none := by
      cases hphase : sl.fastPhase with
      | none =>
        exact ⟨(s.account r).votes, by simp [State.entersVoter, hkind, hphase],
          by simp [State.roles, hkind, hphase, State.voting_get]⟩
      | first =>
        refine ⟨decide (s.firstChoice = some r), ?_, by simp [State.roles, hkind, hphase]⟩
        simp only [decide_eq_true_eq, State.firstChoice_iff, State.entersVoter, hkind, hphase]
        exact ⟨fun h => ⟨h.1, h⟩, fun h => h.2⟩
      | fallback =>
        refine ⟨(s.account r).votes && !(sl.firstAnswer.any fun f => f.1 == r), ?_,
          by simp [State.roles, hkind, hphase, State.voting_get]⟩
        simp only [State.entersVoter, hkind, hphase, Bool.and_eq_true]
        refine and_congr_right fun _ => ?_
        rcases sl.firstAnswer with _ | ⟨q, x⟩ <;> simp
    obtain ⟨c, hc, hget⟩ := hget
    rw [hget, ← hc]
    exact ⟨fun h => if_pos h, fun h => absurd h htarget, fun h _ => if_neg h⟩

/-- The voter list of the granted slot (R62, R102). -/
theorem State.grantedSlot_voters (s : State) (sl : Slot) (r : Replica) :
    (s.grantedSlot sl).voters.get r = ((s.roles sl).get r).map fun role => ⟨role, s.answerAtGrant r⟩ := by
  simp only [State.grantedSlot, Tri.get_ofFn, State.grantAnswers_get]
  cases (s.roles sl).get r <;> simp

theorem State.grantedSlot_targets (s : State) (sl : Slot) (r : Replica) :
    (s.grantedSlot sl).targets.get r = true ↔ ((s.grantedSlot sl).voters.get r).isSome = true ∧ (s.port r).state = .ready := by
  rw [State.grantedSlot_voters]
  simp only [State.grantedSlot, Tri.get_ofFn, State.grantAnswers_get, State.answerAtGrant]
  cases (s.roles sl).get r with
  | none => simp
  | some role => by_cases h : (s.port r).state = .ready <;> simp [h]

/-- The state of an upstream grant before its decisions (R36, R102). -/
def State.slotGranted (i : SlotId) (sl : Slot) (s : State) : State :=
  (s.countUpstream.issue (sl.op i) (Tri.ofFn fun r => ((s.grantedSlot sl).voters.get r).isSome)).setSlot i
    (some (s.grantedSlot sl))

theorem exec_upstreamGrant {s : State} {i : SlotId} {sl : Slot} (h : s.arbiter = some (.upstream i)) (hsl : s.slot i = some sl) :
    exec .upstreamGrant s = .next (s.slotGranted i sl).settle := by
  change execUpstreamGrant s = _
  unfold execUpstreamGrant
  rw [h]
  simp only [hsl]
  rfl

theorem Slot.op_eq (sl : Slot) (i : SlotId) : sl.op i =
    { owner := .slot i, kind := sl.kind, block := sl.block, firstWord := sl.firstWord, length := sl.length,
      enables := sl.enables, data := sl.data, origin := if sl.kind = .read then .upstreamRead else .upstreamWrite } := by
  unfold Slot.op
  cases sl.kind <;> rfl

/-- Settles O13: the slot's voter list is made of its roles and the answers at the grant, its op of its own fields. -/
theorem upstreamGrantIssuesSlot : Obligations.UpstreamGrantIssuesSlot := by
  unfold Obligations.UpstreamGrantIssuesSlot
  intro s i sl harbiter hsl
  have hroles := s.roles_get sl
  have hvoters := s.grantedSlot_voters sl
  have hissued := State.issue_issued (sl.op i) (Tri.ofFn fun r => ((s.grantedSlot sl).voters.get r).isSome) s.countUpstream
  have hk : Keeps [.ports] s (s.countUpstream.issue (sl.op i) (Tri.ofFn fun r => ((s.grantedSlot sl).voters.get r).isSome)) :=
    (State.issue_keeps _ _ _).after (by decide) (State.countUpstream_keeps s)
  refine ⟨s.slotGranted i sl, s.grantedSlot sl, exec_upstreamGrant harbiter hsl, State.slot_setSlot_self i _ _, fun j hj => ?_, rfl,
    fun r h => ?_, fun r h => ?_, fun r h h' => ?_, s.grantedSlot_targets sl, ?_, rfl, rfl, rfl, rfl, rfl, rfl,
    (State.setSlot_keeps _ _ _).after (by decide) (hk.mono (by decide))⟩
  · exact (State.slot_setSlot i j _ _).trans ((if_neg hj).trans (hk.slot (by decide) j))
  · rw [hvoters, (hroles r).1 h]; rfl
  · rw [hvoters, (hroles r).2.1 h]; rfl
  · rw [hvoters, (hroles r).2.2 h h']; rfl
  · rw [← Slot.op_eq]
    exact hissued.congr (fun r => by simp) (fun _ => rfl) rfl (fun _ => rfl) rfl

/-! ## The grants of the engines (R102, R104) -/

theorem State.setEngineOp_rest (e : Engine) (x : OpStage) (s : State) :
    (s.setEngineOp e x).repair = { s.repair with op := (s.setEngineOp e x).repair.op }
      ∧ (s.setEngineOp e x).scrub = { s.scrub with op := (s.setEngineOp e x).scrub.op }
      ∧ (s.setEngineOp e x).copy = { s.copy with op := (s.setEngineOp e x).copy.op } := by
  cases e <;> exact ⟨rfl, rfl, rfl⟩

theorem State.engineIssued_spec (e : Engine) (op : Op) (named : ReplicaSet) (s : State) :
    EngineIssued e op named s.repair.target s (s.engineIssued e op named) := by
  have hports : (s.engineIssued e op named).ports = { (s.issue op named).ports with runCount := 0 } :=
    (State.setEngineOp_keeps e _ _).ports (by decide)
  obtain ⟨hrepair, hscrub, hcopy⟩ := State.setEngineOp_rest e (.out (s.grantAnswers named))
    { s.issue op named with ports := { (s.issue op named).ports with runCount := 0 } }
  refine ⟨(State.issue_issued op named s).congr (fun _ => Iff.rfl) (fun _ => rfl) rfl (fun r => ?_) ?_, by rw [hports],
    ⟨s.grantAnswers named, ?_, s.grantAnswers_get named⟩, fun e' he => ?_,
    (State.engineIssued_keeps e op named s).mono (by decide), ?_, hscrub, hcopy⟩
  · simp only [State.port, hports]
  · rw [hports]
  · exact (State.engineOp_setEngineOp e e _ _).trans (if_pos rfl)
  · exact (State.engineOp_setEngineOp e e' _ _).trans ((if_neg he).trans (by cases e' <;> rfl))
  · cases e <;> rfl

/-- The write of a repair is issued by the state in which its target has been fixed (R119). -/
theorem EngineIssued.of_target {e : Engine} {op : Op} {named : ReplicaSet} {target : Option Replica} {s u : State}
    (h : EngineIssued e op named target { s with repair := { s.repair with target := target } } u) (he : e = .repair) :
    EngineIssued e op named target s u := by
  obtain ⟨hissued, hrun, hanswers, hops, hk, hrepair, hscrub, hcopy⟩ := h
  refine ⟨hissued, hrun, hanswers, fun e' hne => (hops e' hne).trans ?_, ?_, hrepair, hscrub, hcopy⟩
  · cases e' with
    | repair => exact absurd he.symm hne
    | scrub => rfl
    | copy => rfl
  · exact hk.after (by decide) (Keeps.with_repair (by decide) (Keeps.refl _ s))

theorem OpStage.named_ready (named : ReplicaSet) : (OpStage.ready named).named = named := rfl

theorem State.repairWriteSet_get (s : State) (r : Replica) :
    s.repairWriteSet.get r = true ↔
      (s.repair.mask.get r = true ∧ (s.account r).votes = true) ∨ s.writeTarget s.repair.block = some r := by
  simp [State.repairWriteSet, State.voting_get, Tri.get_ofOption]

theorem answeredOk_get (answers : Tri (Option OpAnswer)) (r : Replica) :
    (answeredOk answers).get r = true ↔ ∃ w, answers.get r = some (.ok w) := by
  simp only [answeredOk, Tri.get_ofFn]
  split <;> simp_all

theorem State.repairVerifySet_get (s : State) (r : Replica) :
    s.repairVerifySet.get r = true ↔
      (∃ w, s.repair.writeSet.get r = some (.ok w)) ∧ ((s.account r).votes = true ∨ s.repair.target = some r) := by
  simp [State.repairVerifySet, State.voting_get, Tri.get_ofOption, answeredOk_get]

/-- Settles O27: each grant issues its engine's op to the replicas its rule names. -/
theorem engineGrantsIssueTheirOps : Obligations.EngineGrantsIssueTheirOps := by
  unfold Obligations.EngineGrantsIssueTheirOps
  intro s read write
  have hnamed {ready : ReplicaSet} (r : Replica) : ((OpStage.ready ready).named.inter s.voting).get r = true ↔
      ready.get r = true ∧ (s.account r).votes = true := by
    rw [OpStage.named_ready, Tri.get_inter, State.voting_get, Bool.and_eq_true]
  refine ⟨fun ready harb hphase hop => ?repairRead, fun harb hphase => ?repairWrite, fun harb hphase => ?repairVerify,
    fun harb hstate => ?scrubRead, fun n harb hkind hstep => ?fillWrite, fun r ready harb hkind hstep hop => ?rebuildRead,
    fun r named harb hkind hstep hop => ?rebuildWrite⟩
  case repairRead =>
    exact ⟨_, _, if_pos ⟨harb, hphase⟩, State.engineIssued_spec _ _ _ s, fun r => by rw [hop, hnamed]⟩
  case repairWrite =>
    have htarget (r : Replica) : s.writeTarget s.repair.block = some r ↔
        s.copy.kind = .rebuild r ∧ s.copy.state = .running ∧ s.repair.block < s.copy.pointer := State.writeTarget_eq_some_iff _ _ _
    exact ⟨_, _, if_pos ⟨harb, hphase⟩, (State.engineIssued_spec .repair _ _
      { s with repair := { s.repair with target := s.writeTarget s.repair.block } }).of_target rfl, htarget, s.repairWriteSet_get⟩
  case repairVerify =>
    exact ⟨_, _, if_pos ⟨harb, hphase⟩, State.engineIssued_spec _ _ _ s, s.repairVerifySet_get⟩
  case scrubRead => exact ⟨_, if_pos ⟨harb, hstate⟩, State.engineIssued_spec _ _ _ s⟩
  case fillWrite => exact ⟨_, if_pos ⟨harb, by rw [hkind]; rfl, hstep⟩, State.engineIssued_spec _ _ _ s⟩
  case rebuildRead =>
    exact ⟨_, _, if_pos ⟨harb, by rw [hkind]; rfl, hstep⟩, State.engineIssued_spec _ _ _ s, fun q => by rw [hop, hnamed]⟩
  case rebuildWrite =>
    refine ⟨_, if_pos ⟨harb, by rw [hkind]; rfl, hstep⟩, ?_⟩
    rw [hop]
    exact State.engineIssued_spec _ _ _ s

end Sys2Proof.Machine
end

section
/-! The events at a replica port (R89 to R96, R99): what each leaves of the ports, and whom an entry that leaves a list is handed to. -/

namespace Sys2Proof.Machine

open Sys2Proof

/-! ## Acceptance by a bank (R89) -/

theorem State.setPort_port (r : Replica) (s : State) : s.setPort r (s.port r) = s := by
  simp [State.setPort, State.port, Tri.set_get_self]

theorem acceptFirst_of_accepted {l : List IssueEntry} (h : ∀ y ∈ l, y.accepted = true) : acceptFirst l = l := by
  induction l with
  | nil => rfl
  | cons x l ih => rw [acceptFirst, if_pos (h x List.mem_cons_self), ih fun y hy => h y (List.mem_cons_of_mem x hy)]

theorem acceptFirst_append {pre post : List IssueEntry} {x : IssueEntry} (h : ∀ y ∈ pre, y.accepted = true) (hx : x.accepted = false) :
    acceptFirst (pre ++ x :: post) = pre ++ { x with accepted := true } :: post := by
  induction pre with
  | nil => rw [List.nil_append, List.nil_append, acceptFirst, if_neg (by simp [hx])]
  | cons y pre ih =>
    rw [List.cons_append, acceptFirst, if_pos (h y List.mem_cons_self), ih fun z hz => h z (List.mem_cons_of_mem y hz)]
    rfl

section BankAccept

variable {s : State} {r : Replica} (hready : (s.port r).state = .ready)
include hready

theorem exec_bankOpAccept :
    exec (.bankOpAccept r) s = .next (s.setPort r { s.port r with list := acceptFirst (s.port r).list }) := by
  change execBankOpAccept r s = _
  unfold execBankOpAccept
  rw [hready]

theorem State.presentedOp_of_ready : s.presentedOp r = ((s.port r).list.find? fun x => !x.accepted).map (·.op) := by
  unfold State.presentedOp
  rw [hready]

end BankAccept

/-- Settles O31: the oldest entry not accepted is the one presented and the one marked. -/
theorem bankAcceptsOldestUnacceptedOp : Obligations.BankAcceptsOldestUnacceptedOp := by
  unfold Obligations.BankAcceptsOldestUnacceptedOp
  intro s r hready
  refine ⟨fun pre x post hlist hpre hx => ?_, fun h => ⟨?_, ?_⟩⟩
  · have hfind : (s.port r).list.find? (fun x => !x.accepted) = some x :=
      List.find?_eq_some_iff_append.2 ⟨by simp [hx], pre, post, hlist, fun y hy => by simp [hpre y hy]⟩
    refine ⟨_, exec_bankOpAccept hready, by rw [State.presentedOp_of_ready hready, hfind]; rfl, ?_, fun q hq => ?_, rfl, rfl,
      State.setPort_keeps _ _ _⟩
    · rw [State.port_setPort_self, hlist, acceptFirst_append hpre hx]
    · rw [State.port_setPort, if_neg hq]
  · rw [State.presentedOp_of_ready hready, List.find?_eq_none.2 fun y hy => by simp [h y hy]]
    rfl
  · rw [exec_bankOpAccept hready, acceptFirst_of_accepted h]
    exact congrArg Host.Outcome.next (State.setPort_port r s)

/-! ## Whom an entry is handed to (R37, R90, R91) -/

theorem State.handOn_slot {entry : IssueEntry} {i : SlotId} (h : entry.op.owner = .slot i) (r : Replica) (x : OpAnswer) (s : State) :
    s.handOn r x entry = s.setSlot i ((s.slot i).map fun sl => sl.recordAnswer r x) := by
  unfold State.handOn
  rw [h]

theorem State.handOn_gone {entry : IssueEntry} {e : Engine} (h : entry.op.owner = .engine e) (hgone : entry.ownerGone = true)
    (r : Replica) (x : OpAnswer) (s : State) : s.handOn r x entry = s.goneLeft e entry.op.block := by
  unfold State.handOn
  rw [h]
  exact if_pos hgone

theorem State.handOn_live {entry : IssueEntry} {e : Engine} (h : entry.op.owner = .engine e) (hgone : entry.ownerGone = false)
    (r : Replica) (x : OpAnswer) (s : State) :
    s.handOn r x entry = s.setEngineOp e ((s.engineOp e).recordAnswer r x) := by
  unfold State.handOn
  rw [h]
  exact if_neg (ne_true_of_eq_false hgone)

theorem Slot.recordAnswer_of_pending {sl : Slot} {r : Replica} {role : Role} (h : sl.voters.get r = some ⟨role, .pending⟩)
    (x : OpAnswer) : sl.recordAnswer r x = { sl with voters := sl.voters.set r (some ⟨role, x⟩) } := by
  unfold Slot.recordAnswer
  rw [h]

theorem Slot.recordAnswer_of_not_pending {sl : Slot} {r : Replica} (h : ∀ role, sl.voters.get r ≠ some ⟨role, .pending⟩)
    (x : OpAnswer) : sl.recordAnswer r x = sl := by
  unfold Slot.recordAnswer
  split
  · exact absurd ‹_› (h _)
  all_goals rfl

theorem recordAnswer_of_pending {answers : Tri (Option OpAnswer)} {r : Replica} (h : answers.get r = some .pending) (x : OpAnswer) :
    recordAnswer answers r x = answers.set r (some x) := by
  unfold recordAnswer
  rw [h]

theorem recordAnswer_of_not_pending {answers : Tri (Option OpAnswer)} {r : Replica} (h : answers.get r ≠ some .pending) (x : OpAnswer) :
    recordAnswer answers r x = answers := by
  unfold recordAnswer
  split
  · exact absurd ‹_› h
  all_goals rfl

theorem OpStage.recordAnswer_of_not_pending {o : OpStage} {r : Replica}
    (h : ∀ answers, o = .out answers → answers.get r ≠ some .pending) (x : OpAnswer) : o.recordAnswer r x = o := by
  cases o with
  | out answers => exact congrArg OpStage.out (Machine.recordAnswer_of_not_pending (h answers rfl) x)
  | none => rfl
  | ready named => rfl

theorem State.setEngineOp_engineOp (e : Engine) (s : State) : s.setEngineOp e (s.engineOp e) = s := by cases e <;> rfl

theorem exec_portAnswer {s : State} {r : Replica} {head : IssueEntry} {rest : List IssueEntry}
    (hready : (s.port r).state = .ready) (hlist : (s.port r).list = head :: rest) (x : BankAnswer) :
    exec (.portAnswer r x) s = .next (((s.dropHead r rest).handOn r (asAnswer x head.op) head).settle.expireHead r) := by
  change execPortAnswer r x s = _
  unfold execPortAnswer
  rw [hready, hlist]
  rfl

/-- Settles O32: the head leaves, its owner records the answer where it is PENDING, and a head that is late then times out. -/
theorem portAnswerGoesToHeadsOwner : Obligations.PortAnswerGoesToHeadsOwner := by
  unfold Obligations.PortAnswerGoesToHeadsOwner
  refine ⟨fun s r answer head rest hready hlist => ?_, fun s r => ⟨fun _ _ _ _ _ => rfl,
    fun head rest _ hlist h => State.expireHead_of_time_left hlist h, State.expireHead_of_no_head⟩⟩
  have hk := State.handOn_keeps r (asAnswer answer head.op) head (s.dropHead r rest)
  have hport (q : Replica) : ((s.dropHead r rest).handOn r (asAnswer answer head.op) head).port q = (s.dropHead r rest).port q := hk.port (by decide) q
  have hdrop : Keeps [.ports] s (s.dropHead r rest) := State.setPort_keeps _ _ _
  have hop (e : Engine) : (s.dropHead r rest).engineOp e = s.engineOp e := by cases e <;> rfl
  refine ⟨_, exec_portAnswer hready hlist answer, (hport r).trans (State.port_setPort_self _ _ _), fun q hq => (hport q).trans ((State.port_setPort _ _ _ _).trans (if_neg hq)),
    by rw [hk.ports (by decide)]; rfl, by rw [hk.ports (by decide)]; rfl, ?_⟩
  intro x
  have hx : asAnswer answer head.op = x := rfl
  clear_value x
  rw [hx]
  refine ⟨fun i howner => ?slot, fun e answers howner hlive hout hpending => ?pending, fun e howner hlive hnot => ?discarded,
    fun e howner hgone => ?gone⟩
  case slot =>
    rw [State.handOn_slot howner]
    refine ⟨(State.setSlot_keeps _ _ _).after (by decide) (hdrop.mono (by decide)), rfl,
      fun j hj => (State.slot_setSlot _ _ _ _).trans (if_neg hj), fun hnot => ?_, fun sl role hsl hpending => ?_⟩
    all_goals rw [State.slot_setSlot_self]
    · change (s.slot i).map _ = _
      cases hsl : s.slot i with
      | none => rfl
      | some sl => exact congrArg some (Slot.recordAnswer_of_not_pending (fun role => hnot sl role hsl) x)
    · change (s.slot i).map _ = _
      rw [hsl]
      exact congrArg some (Slot.recordAnswer_of_pending hpending x)
  case pending =>
    rw [State.handOn_live howner hlive, hop, hout]
    refine ⟨?_, fun e' he => ?_, ?_, (State.setEngineOp_keeps _ _ _).after (by decide) (hdrop.mono (by decide))⟩
    · rw [State.engineOp_setEngineOp, if_pos rfl]
      exact congrArg OpStage.out (recordAnswer_of_pending hpending x)
    · rw [State.engineOp_setEngineOp, if_neg he, hop]
    · exact (State.setEngineOp_keeps _ _ _).rt (by decide)
  case discarded =>
    rw [State.handOn_live howner hlive, OpStage.recordAnswer_of_not_pending fun answers ha => hnot answers ((hop e).symm.trans ha),
      State.setEngineOp_engineOp]
    rfl
  case gone => exact State.handOn_gone howner hgone r x _

/-! ## An abort that begins (R95, R96, R97) -/

theorem State.emptyPort_ports (r : Replica) (s : State) : (s.emptyPort r).ports = (s.setPort r (s.port r).emptied).ports := by
  rw [State.emptyPort_eq]
  exact (Keeps.foldl (fun s entry => State.handOn_keeps r .lost entry s) _ _).ports (by decide)

theorem State.emptyPort_port (r q : Replica) (s : State) :
    (s.emptyPort r).port q = if q = r then (s.port r).emptied else s.port q := by
  simp only [State.port, State.emptyPort_ports]
  exact State.port_setPort r q _ s

/-- The port of an abort that has begun. -/
def Port.begun (p : Port) : Port := { p.emptied with abort := true }

theorem Port.begun_eq (p : Port) : p.begun = { p with state := .aborting, list := [], abortLimit := some 16, abort := true } := rfl

theorem State.beginAbort_port (r q : Replica) (s : State) : (s.beginAbort r).port q = if q = r then (s.port r).begun else s.port q := by
  rw [State.beginAbort, State.assertAbort, State.port_setPort, State.emptyPort_port, if_pos rfl, State.emptyPort_port]
  split <;> rfl

theorem State.beginAbort_registers (r : Replica) (s : State) :
    (s.beginAbort r).ports.replyTimeout = s.ports.replyTimeout ∧ (s.beginAbort r).ports.runCount = s.ports.runCount := by
  rw [State.beginAbort, State.assertAbort, State.setPort_replyTimeout, State.setPort_runCount, State.emptyPort_ports]
  exact ⟨rfl, rfl⟩

theorem State.retirePort_of_ready {r : Replica} {s : State} (h : (s.port r).state = .ready) : s.retirePort r = s.beginAbort r := by
  unfold State.retirePort
  rw [h]

theorem State.retirePort_of_not_ready {r : Replica} {s : State} (h : (s.port r).state ≠ .ready) : s.retirePort r = s := by
  unfold State.retirePort
  split
  · exact absurd ‹_› h
  all_goals rfl

/-- The state in which a retirement turns to the replica's port: account, events and active repair are done (R14). -/
def State.retiring (r : Replica) (reason : RetireReason) (s : State) : State :=
  { s.retireAccount r reason with repair := (s.retireAccount r reason).repair.retire r }

theorem State.retireCore_eq_retirePort (r : Replica) (reason : RetireReason) (s : State) :
    s.retireCore r reason = ((s.retiring r reason).retirePort r).retireFromQueue r := rfl

theorem State.retiring_keeps (r : Replica) (reason : RetireReason) (s : State) :
    Keeps [.health, .alerts, .repair] s (s.retiring r reason) :=
  Keeps.with_repair (by decide) ((State.retireAccount_keeps r reason s).mono (by decide))

/-- A retirement begins the abort of its replica's port when it is READY, and leaves every other port (R97). -/
theorem State.retireCore_port (r q : Replica) (reason : RetireReason) (s : State) :
    (s.retireCore r reason).port q = if q = r ∧ (s.port r).state = .ready then (s.port r).begun else s.port q := by
  have hport (p : Replica) : (s.retiring r reason).port p = s.port p := (State.retiring_keeps r reason s).port (by decide) p
  rw [State.retireCore_eq_retirePort, (State.retireFromQueue_keeps r _).port (by decide)]
  by_cases h : (s.port r).state = .ready
  · rw [State.retirePort_of_ready (by rw [hport, h]), State.beginAbort_port, hport, hport]
    simp only [h, and_true]
  · rw [State.retirePort_of_not_ready (by rwa [hport]), hport, if_neg fun hn => h hn.2]

theorem State.retireCore_registers (r : Replica) (reason : RetireReason) (s : State) :
    (s.retireCore r reason).ports.replyTimeout = s.ports.replyTimeout
      ∧ (s.retireCore r reason).ports.runCount = s.ports.runCount := by
  have hports : (s.retiring r reason).ports = s.ports := (State.retiring_keeps r reason s).ports (by decide)
  rw [State.retireCore_eq_retirePort, (State.retireFromQueue_keeps r _).ports (by decide), ← hports]
  by_cases h : ((s.retiring r reason).port r).state = .ready
  · rw [State.retirePort_of_ready h]
    exact State.beginAbort_registers r _
  · rw [State.retirePort_of_not_ready h]
    exact ⟨rfl, rfl⟩

/-- A charge leaves a port that is not READY as it is: the one thing it can do to a port is begin its abort (R5, R97). -/
theorem State.charge_port_of_not_ready {r : Replica} {s : State} (k : ChargeKind) (h : (s.port r).state ≠ .ready) :
    (s.charge r k).port r = s.port r := by
  have happly : (s.applyCharge r k).port r = s.port r := (State.applyCharge_keeps r k s).port (by decide) r
  cases hvotes : (s.account r).votes with
  | false => rw [State.charge_of_not_votes k hvotes]
  | true =>
    rw [State.charge_of_votes k hvotes]
    by_cases hretire : (s.applyCharge r k).mustRetire r
    · rw [State.autoRetire_of_mustRetire hretire, State.retireCore_port, happly, if_neg fun hn => h hn.2]
    · rw [State.autoRetire_of_not_mustRetire hretire, happly]

/-- Settles O33: the five steps of R95, in their order. -/
theorem portTimeoutTakesFiveSteps : Obligations.PortTimeoutTakesFiveSteps := by
  unfold Obligations.PortTimeoutTakesFiveSteps
  intro s r head rest hready hlist hdue
  have hempty : (s.emptyPort r).port r = (s.port r).emptied := (State.emptyPort_port r r s).trans (if_pos rfl)
  have hcharged : ((s.emptyPort r).charge r .timeout).port r = (s.port r).emptied := by
    rw [State.charge_port_of_not_ready, hempty]
    rw [hempty]
    nofun
  have hexec : exec (.portTimeout r) s = .next (s.timeOut r head) := by
    change Host.Outcome.next (s.expireHead r) = _
    rw [State.expireHead_of_ready hready hlist, if_pos hdue]
  have hport := fun x => ((State.recordEvent_keeps x ((s.emptyPort r).charge r .timeout)).port (by decide) r).trans hcharged
  refine ⟨s.emptyPort r, _, hexec, hempty, by rw [hempty]; exact State.emptyPort_eq r s, rfl, ?_, ?_, ?_, ?_⟩ <;>
    rw [State.assertAbort, State.port_setPort_self, hport] <;> rfl

/-! ## ABORT_DONE (R99, R150) -/

/-- What the copy engine's claim on a block changes: its own claim, and the walker, when that has an earlier claim on the block. -/
theorem State.claim_copy_spec (block : Nat) (s : State) :
    (s.claim .copy block).lock .copy = { s.lock .copy with claim := some block }
      ∧ (s.claim .copy block).lock .repair = s.lock .repair
      ∧ ((s.lock .scrub).claim ≠ some block →
          (s.claim .copy block).lock .scrub = s.lock .scrub
            ∧ (s.claim .copy block).rt = { s.rt with locks := (s.claim .copy block).rt.locks }
            ∧ Keeps [.rt] s (s.claim .copy block))
      ∧ Keeps [.rt, .scrub] s (s.claim .copy block) := by
  have hclaim : s.claim .copy block =
      (s.grantEarlier .scrub block).setLock .copy { (s.grantEarlier .scrub block).lock .copy with claim := some block } := rfl
  have hlock {e : Engine} (he : e ≠ .scrub) : (s.grantEarlier .scrub block).lock e = s.lock e := by
    unfold State.grantEarlier
    split
    · exact State.grantClaim_lock_other block s he he
    · rfl
  have hkeeps : Keeps [.rt, .scrub] s (s.grantEarlier .scrub block) := by
    unfold State.grantEarlier
    split
    · exact (((State.grantClaim_keeps .scrub block s).drop (p := .repair) (M := [.rt, .scrub, .copy])
        (State.grantClaim_repair_of_ne (by decide) block s) (by decide)).drop (p := .copy)
        (State.grantClaim_copy_of_ne (by decide) block s) (by decide))
    · exact Keeps.refl _ s
  refine ⟨?_, ?_, fun hscrub => ?_, ?_⟩
  · rw [hclaim, State.lock_setLock_self, hlock (by decide)]
  · rw [hclaim, State.lock_setLock, if_neg (by decide), hlock (by decide)]
  · have hnone : s.grantEarlier .scrub block = s := State.grantEarlier_of_not_wins (.inl hscrub)
    rw [hclaim, hnone, State.lock_setLock, if_neg (by decide)]
    exact ⟨rfl, rfl, State.setLock_keeps _ _ _⟩
  · rw [hclaim]
    exact (State.setLock_keeps _ _ _).after (by decide) hkeeps

theorem State.inUse_get (s : State) (r : Replica) :
    s.inUse.get r = true ↔ (s.account r).votes = true ∨ s.rebuildTarget = some r := by
  simp [State.inUse, State.voting_get, Tri.get_ofOption]

/-- The state whose abort has ended, before a rebuild goes on. -/
def State.abortEnded (r : Replica) (s : State) : State := (s.setAbortDone r true).endAbort r

theorem State.abortEnded_port (r q : Replica) (s : State) :
    (s.abortEnded r).port q =
      if q = r then
        { s.port r with
          state := if (s.account r).votes = true ∨ s.rebuildTarget = some r then .ready else .off
          abortLimit := none, abort := false, abortDone := true }
      else s.port q := by
  have hport (p : Replica) : (s.setAbortDone r true).port p = if p = r then { s.port r with abortDone := true } else s.port p :=
    State.port_setPort r p _ s
  have huse : ((s.setAbortDone r true).inUse.get r = true) = ((s.account r).votes = true ∨ s.rebuildTarget = some r) :=
    propext (State.inUse_get s r)
  rw [State.abortEnded, State.endAbort, State.port_setPort, hport, hport, if_pos rfl]
  simp only [huse]
  split <;> rfl

theorem State.abortEnded_keeps (r : Replica) (s : State) : Keeps [.ports] s (s.abortEnded r) :=
  (State.setPort_keeps _ _ _).after (by decide) (State.setPort_keeps _ _ _)

theorem exec_abortDone_of_rising {s : State} {r : Replica} (hlow : (s.port r).abortDone = false)
    (habort : (s.port r).state = .aborting) : exec (.abortDone r) s = .next ((s.abortEnded r).targetUp r) := by
  change execAbortDone r s = _
  unfold execAbortDone
  simp only [hlow, Bool.false_eq_true, if_false]
  split
  · rfl
  all_goals rename_i hstate; exact absurd habort (by rw [hstate]; decide)

theorem exec_abortDone_of_not_aborting {s : State} {r : Replica} (hlow : (s.port r).abortDone = false)
    (habort : (s.port r).state ≠ .aborting) : exec (.abortDone r) s = .next (s.setPort r { s.port r with abortDone := true }) := by
  change execAbortDone r s = _
  unfold execAbortDone
  simp only [hlow, Bool.false_eq_true, if_false]
  split
  · exact absurd ‹_› habort
  all_goals rfl

/-- Settles O34: a rising level on an ABORTING port ends the abort; the copy engine waiting for it claims its first block. -/
theorem abortDoneEndsAbort : Obligations.AbortDoneEndsAbort := by
  unfold Obligations.AbortDoneEndsAbort
  intro s r
  refine ⟨fun hhigh => if_pos hhigh, fun hlow habort => ⟨_, exec_abortDone_of_not_aborting hlow habort, rfl⟩,
    fun hlow habort => ?_, ⟨_, rfl, rfl⟩⟩
  have hk := State.abortEnded_keeps r s
  have hport := s.abortEnded_port r
  by_cases htarget : s.rebuildTarget = some r ∧ s.copy.state = .starting
  · obtain ⟨hlock, hrepair, hfree, hkeeps⟩ := State.claim_copy_spec s.copy.pointer
      { s.abortEnded r with copy := { s.copy with state := .running, step := .claim } }
    refine ⟨{ s.abortEnded r with copy := { s.copy with state := .running, step := .claim } }, _,
      exec_abortDone_of_rising hlow habort, (hport r).trans (if_pos rfl), fun q hq => (hport q).trans (if_neg hq), rfl, rfl,
      fun _ _ => ?_, fun hn => absurd htarget hn⟩
    have hup : (s.abortEnded r).targetUp r =
        State.claim .copy s.copy.pointer { s.abortEnded r with copy := { s.copy with state := .running, step := .claim } } :=
      if_pos ⟨htarget.2, htarget.1⟩
    rw [hup]
    exact ⟨rfl, (Keeps.with_copy (by decide) (hk.mono (by decide))), rfl, hlock, hrepair, hfree, hkeeps⟩
  · refine ⟨s.abortEnded r, _, exec_abortDone_of_rising hlow habort, (hport r).trans (if_pos rfl),
      fun q hq => (hport q).trans (if_neg hq), rfl, rfl, fun h h' => absurd ⟨h, h'⟩ htarget, fun _ => ⟨?_, hk⟩⟩
    exact if_neg fun hn => htarget ⟨hn.2, hn.1⟩

end Sys2Proof.Machine
end

section
/-! Settings words and the decay timer (R8, R10, R52, R130, R183, R199): accounts with their HEALTH causes, and the walker's timer. -/

namespace Sys2Proof.Machine

open Sys2Proof

/-! ## Operations on the HEALTH cause of one account, made for A, B and C -/

/-- An operation that changes the cause of one account by a function of the thresholds, the account and the cause, and no other. -/
structure CauseOp (f : Replica → State → State) (h : Replica → Thresholds → Account → CauseState → CauseState) : Prop where
  moved : ∀ r s, AlertsMoved [.health r] s (f r s)
  self : ∀ r s, (f r s).alerts.causes.get (.health r)
    = h r s.health.thresholds (s.account r) (s.alerts.causes.get (.health r))

theorem CauseOp.cause {f : Replica → State → State} {h : Replica → Thresholds → Account → CauseState → CauseState}
    (hc : CauseOp f h) (r q : Replica) (s : State) :
    (f r s).alerts.causes.get (.health q) =
      if q = r then h r s.health.thresholds (s.account r) (s.alerts.causes.get (.health r))
      else s.alerts.causes.get (.health q) := by
  split
  · rename_i hq; rw [hq, hc.self]
  · rename_i hq; exact (hc.moved r s).others _ (by simpa using hq)

theorem CauseOp.forEach_cause {f : Replica → State → State} {g : Replica → Thresholds → Account → Account}
    {h : Replica → Thresholds → Account → CauseState → CauseState} (hc : CauseOp f h) (ha : AccountOp f g) (r : Replica)
    (s : State) :
    (s.forEach f).alerts.causes.get (.health r)
      = h r s.health.thresholds (s.account r) (s.alerts.causes.get (.health r)) := by
  have hta := (ha.moved .a s).thresholds
  have htb := (ha.moved .b (f .a s)).thresholds.trans hta
  unfold State.forEach
  cases r <;> simp [hc.cause, ha.account, hta, htb]

/-- HEALTH_r at the decay expiry's second half (R10): its leave event where the account leaves SUSPECT. -/
def CauseState.cleared (t : Thresholds) (a : Account) (c : CauseState) : CauseState :=
  if a.state = .suspect ∧ a.score ≤ t.clearAt then c.suspectLeave a.alertMode else c

/-- HEALTH_r under new thresholds (R8). -/
def CauseState.retested (t : Thresholds) (a : Account) (c : CauseState) : CauseState :=
  if a.state = .healthy ∧ t.suspectAt ≤ a.score then c.suspectEntry a.alertMode else c.cleared t a

theorem State.setAccount_suspectEntry_cause (r : Replica) (a : Account) (s : State) :
    ((s.setAccount r a).suspectEntry r).alerts.causes.get (.health r) =
      (s.alerts.causes.get (.health r)).suspectEntry a.alertMode := by
  rw [State.suspectEntry, State.updateCause_get, if_pos rfl, State.account_setAccount_self, State.setAccount_alerts]

theorem State.setAccount_suspectLeave_cause (r : Replica) (a : Account) (s : State) :
    ((s.setAccount r a).suspectLeave r).alerts.causes.get (.health r) =
      (s.alerts.causes.get (.health r)).suspectLeave a.alertMode := by
  rw [State.suspectLeave, State.updateCause_get, if_pos rfl, State.account_setAccount_self, State.setAccount_alerts]

theorem decayScore_causeOp : CauseOp State.decayScore fun _ _ _ c => c where
  moved := State.decayScore_moved
  self := fun r s => by rw [(State.decayScore_keeps r s).alerts (by decide)]

theorem decayClear_causeOp : CauseOp State.decayClear fun _ => CauseState.cleared where
  moved := State.decayClear_moved
  self := fun r s => by
    unfold State.decayClear CauseState.cleared
    simp only
    split
    · exact State.setAccount_suspectLeave_cause r _ s
    · rfl

theorem retest_causeOp : CauseOp State.retest fun _ => CauseState.retested where
  moved := State.retest_moved
  self := fun r s => by
    unfold State.retest CauseState.retested CauseState.cleared
    simp only
    split_ifs
    · exact State.setAccount_suspectEntry_cause r _ s
    · exact State.setAccount_suspectLeave_cause r _ s
    · rfl

theorem setAlertMode_causeOp (modes : Tri AlertMode) :
    CauseOp (State.setAlertMode modes) fun r _ a c => c.convert a.alertMode (modes.get r) where
  moved := State.setAlertMode_moved modes
  self := fun r s => by
    rw [State.setAlertMode, State.setAccount_alerts, State.updateCause_get, if_pos rfl]

/-! ## DECAY_EXPIRY -/

theorem State.decayed_account (r : Replica) (s : State) :
    ((s.restartDecay.forEach State.decayScore).forEach State.decayClear).account r
      = (s.account r).decayed.cleared s.health.thresholds := by
  rw [decayClear_accountOp.forEach_account, decayScore_accountOp.forEach_account, decayScore_accountOp.forEach_thresholds]
  rfl

theorem State.decayed_cause (r : Replica) (s : State) :
    ((s.restartDecay.forEach State.decayScore).forEach State.decayClear).alerts.causes.get (.health r)
      = (s.alerts.causes.get (.health r)).cleared s.health.thresholds (s.account r).decayed := by
  rw [decayClear_causeOp.forEach_cause decayClear_accountOp, decayScore_causeOp.forEach_cause decayScore_accountOp,
    decayScore_accountOp.forEach_account, decayScore_accountOp.forEach_thresholds]
  rfl

/-- Settles O36: each account loses its point and is then tested against CLEAR_AT, and its cause follows. -/
theorem decayLowersScores : Obligations.DecayLowersScores := by
  unfold Obligations.DecayLowersScores
  intro s hreset htimer
  have hexec : exec .decayExpiry s = execDecayExpiry s := rfl
  have hnext : execDecayExpiry s = .next ((s.restartDecay.forEach State.decayScore).forEach State.decayClear) :=
    if_neg (by simp [hreset, htimer])
  refine ⟨_, hexec.trans hnext, fun r => ?_,
    (decayClear_accountOp.forEach_decayTimer _).trans (decayScore_accountOp.forEach_decayTimer _),
    (decayClear_accountOp.forEach_decayInterval _).trans (decayScore_accountOp.forEach_decayInterval _),
    (decayClear_accountOp.forEach_thresholds _).trans (decayScore_accountOp.forEach_thresholds _), State.decay_moved s,
    State.decay_keeps s⟩
  have haccount := s.decayed_account r
  have hcause := s.decayed_cause r
  refine ⟨fun hv => ?silent, fun hh => ?healthy, fun hs habove => ?above, fun hs hbelow => ?below⟩
  case silent =>
    have hns : (s.account r).state ≠ .suspect := fun h => by simp [Account.votes, h] at hv
    have hd : (s.account r).decayed = s.account r := by simp [Account.decayed, hv]
    rw [hd] at haccount hcause
    exact ⟨haccount.trans (if_neg fun h => hns h.1), hcause.trans (if_neg fun h => hns h.1)⟩
  case healthy =>
    have hd : (s.account r).decayed = { s.account r with score := (s.account r).score - 1 } :=
      if_pos ((Account.votes_iff _).2 (.inl hh))
    rw [hd] at haccount hcause
    exact ⟨haccount.trans (if_neg fun h => by simp [hh] at h), hcause.trans (if_neg fun h => by simp [hh] at h)⟩
  case above =>
    have hd : (s.account r).decayed = { s.account r with score := (s.account r).score - 1 } :=
      if_pos ((Account.votes_iff _).2 (.inr hs))
    rw [hd] at haccount hcause
    exact ⟨haccount.trans (if_neg fun h => Nat.not_le_of_lt habove h.2), hcause.trans (if_neg fun h => Nat.not_le_of_lt habove h.2)⟩
  case below =>
    have hd : (s.account r).decayed = { s.account r with score := (s.account r).score - 1 } :=
      if_pos ((Account.votes_iff _).2 (.inr hs))
    rw [hd] at haccount hcause
    exact ⟨haccount.trans (if_pos ⟨hs, hbelow⟩), hcause.trans (if_pos ⟨hs, hbelow⟩)⟩

/-! ## The settings words -/

theorem thresholdsOperand_valid_iff (v : Word) :
    (thresholdsOperand v).valid = true ↔
      v.toNat / 2 ^ 10 % 1024 < v.toNat % 1024 ∧ v.toNat % 1024 < v.toNat / 2 ^ 20 % 1024 := by
  simp [Thresholds.valid, thresholdsOperand, Word.field]

theorem thresholdsOperand_eq (v : Word) :
    thresholdsOperand v = { suspectAt := v.toNat % 1024, clearAt := v.toNat / 2 ^ 10 % 1024,
                            retireAt := v.toNat / 2 ^ 20 % 1024, autoRetire := v.getLsbD 30 } := by
  simp [thresholdsOperand, Word.field, Word.bit]

theorem State.retested_account_cause (t : Thresholds) (r : Replica) (s : State) :
    let u := (s.withThresholds t).forEach State.retest
    let a := s.account r
    let c := s.alerts.causes.get (.health r)
    (a.state = .healthy → t.suspectAt ≤ a.score →
      u.account r = { a with state := .suspect } ∧ u.alerts.causes.get (.health r) = c.suspectEntry a.alertMode)
    ∧ (a.state = .suspect → a.score ≤ t.clearAt →
      u.account r = { a with state := .healthy } ∧ u.alerts.causes.get (.health r) = c.suspectLeave a.alertMode)
    ∧ (¬(a.state = .healthy ∧ t.suspectAt ≤ a.score) → ¬(a.state = .suspect ∧ a.score ≤ t.clearAt) →
      u.account r = a ∧ u.alerts.causes.get (.health r) = c) := by
  intro u a c
  have haccount : u.account r = a.retested t := retest_accountOp.forEach_account r _
  have hcause : u.alerts.causes.get (.health r) = c.retested t a := retest_causeOp.forEach_cause retest_accountOp r _
  rw [haccount, hcause]
  unfold Account.retested CauseState.retested Account.cleared CauseState.cleared
  refine ⟨fun hs hle => ?_, fun hs hle => ?_, fun h1 h2 => ?_⟩
  · rw [if_pos ⟨hs, hle⟩, if_pos ⟨hs, hle⟩]; exact ⟨rfl, rfl⟩
  · have hn : ¬(a.state = .healthy ∧ t.suspectAt ≤ a.score) := fun hh => by simp [hs] at hh
    rw [if_neg hn, if_neg hn, if_pos ⟨hs, hle⟩, if_pos ⟨hs, hle⟩]; exact ⟨rfl, rfl⟩
  · rw [if_neg h1, if_neg h1, if_neg h2, if_neg h2]; exact ⟨rfl, rfl⟩

theorem timingOperand_valid_iff (v : Word) :
    (timingOperand v).valid = true ↔ v.toNat % 64 ≠ 0 ∧ v.toNat / 2 ^ 6 % 65536 ≠ 0 := by
  simp [TimingFields.valid, timingOperand, Word.field]

/-- The state after a taken TIMING write (R52, R92, R130). -/
def State.retimed (t : TimingFields) (s : State) : State :=
  { s with
    ports := { s.ports with replyTimeout := t.replyTimeout }
    regions := { s.regions with defaultScrub := t.defaultScrub }
    scrub := s.scrub.retime t.scrubOn t.scrubInterval }

theorem State.writeTiming_of_valid {v : Word} (h : (timingOperand v).valid = true) (s : State) :
    s.writeTiming v = (.done, s.retimed (timingOperand v)) := by
  simp [State.writeTiming, h, State.retimed]

theorem State.writeTiming_of_invalid {v : Word} (h : (timingOperand v).valid = false) (s : State) :
    s.writeTiming v = (.refusedArgument, s) := by
  simp [State.writeTiming, h]

/-- What a taken TIMING write does to the walker, state by state (R130). -/
theorem Scrub.retime_spec (w : Scrub) (on : Bool) (n : Nat) :
    let w' := w.retime on n
    w'.on = on ∧ w'.interval = n ∧ w'.pointer = w.pointer ∧ w'.passCount = w.passCount ∧ w'.op = w.op
    ∧ (w.state = .off → on = true → w'.state = .waiting ∧ w'.timer = some n)
    ∧ (w.state = .off → on = false → w'.state = .off ∧ w'.timer = w.timer)
    ∧ (w.state = .waiting ∨ w.state = .paused →
        (on = false → w'.state = .off ∧ w'.timer = none ∧ w'.reason = .none)
        ∧ (on = true → w'.state = w.state ∧ w'.reason = w.reason
            ∧ w'.timer = if w.interval = n then w.timer else some n))
    ∧ (w.state = .claiming ∨ w.state = .reading →
        w'.state = w.state ∧ w'.timer = w.timer ∧ w'.reason = w.reason) := by
  intro w'
  have hw' : w' = w.retime on n := rfl
  clear_value w'
  rw [hw']
  unfold Scrub.retime
  cases w.state with
  | off => cases on <;> simp
  | waiting => by_cases hn : w.interval = n <;> cases on <;> simp [hn]
  | paused => by_cases hn : w.interval = n <;> cases on <;> simp [hn]
  | claiming => simp
  | reading => simp

theorem State.retimed_keeps (t : TimingFields) (s : State) : Keeps [.ports, .regions, .scrub] s (s.retimed t) := by
  intro p hp; cases p <;> first | rfl | exact absurd hp (by decide)

theorem alertModeOperand_of_ne {n : Nat} (h : n < 4) (h3 : n ≠ 3) : ∃ m, alertModeOperand n = some m ∧ m.code = n := by
  have hcases : n = 0 ∨ n = 1 ∨ n = 2 := by omega
  rcases hcases with rfl | rfl | rfl
  · exact ⟨.level, rfl, rfl⟩
  · exact ⟨.edge, rfl, rfl⟩
  · exact ⟨.entry, rfl, rfl⟩

theorem housekeepingOperand_of_valid {v : Word} (hdecay : v.toNat % 65536 ≠ 0)
    (hmode : ∀ r : Replica, v.toNat / 2 ^ (32 + 2 * r.number) % 4 ≠ 3) :
    ∃ f, housekeepingOperand v = some f ∧ f.decayInterval = v.toNat % 65536
      ∧ f.sessionIdle = v.toNat / 2 ^ 16 % 65536
      ∧ ∀ r : Replica, (f.modes.get r).code = v.toNat / 2 ^ (32 + 2 * r.number) % 4 := by
  have hfield (r : Replica) : ∃ m, alertModeOperand (v.field (32 + 2 * r.number) 2) = some m ∧
      m.code = v.toNat / 2 ^ (32 + 2 * r.number) % 4 := alertModeOperand_of_ne (Nat.mod_lt _ (by decide)) (hmode r)
  have hnonzero : v.field 0 16 ≠ 0 := by simpa [Word.field] using hdecay
  obtain ⟨ma, ha, hca⟩ := hfield .a
  obtain ⟨mb, hb, hcb⟩ := hfield .b
  obtain ⟨mc, hc, hcc⟩ := hfield .c
  refine ⟨{ decayInterval := v.field 0 16, sessionIdle := v.field 16 16, modes := ⟨ma, mb, mc⟩ }, ?_, ?_, rfl, fun r => ?_⟩
  · simp only [Replica.number, Nat.mul_zero, Nat.mul_one, Nat.add_zero, Nat.reduceMul, Nat.reduceAdd] at ha hb hc
    rw [housekeepingOperand, ha, hb, hc]
    exact if_neg hnonzero
  · simp [Word.field]
  · cases r
    · exact hca
    · exact hcb
    · exact hcc

theorem housekeepingOperand_of_invalid {v : Word}
    (h : v.toNat % 65536 = 0 ∨ ∃ r : Replica, v.toNat / 2 ^ (32 + 2 * r.number) % 4 = 3) : housekeepingOperand v = none := by
  unfold housekeepingOperand
  rcases h with hzero | ⟨r, hr⟩
  · have hfield : v.field 0 16 = 0 := by simpa [Word.field] using hzero
    split
    · exact if_pos hfield
    · rfl
  · have hfield : alertModeOperand (v.field (32 + 2 * r.number) 2) = none := by
      rw [Word.field, show (2 ^ 2 : Nat) = 4 from rfl, hr]; rfl
    split
    · rename_i ha hb hc
      cases r
      · exact absurd (hfield.symm.trans ha) (by simp)
      · exact absurd (hfield.symm.trans hb) (by simp)
      · exact absurd (hfield.symm.trans hc) (by simp)
    · rfl

/-- The conversion of a HEALTH cause, by the table of R183. -/
theorem CauseState.convert_spec (old new : AlertMode) (c : CauseState) :
    let c' := c.convert old new
    c'.condition = c.condition
    ∧ (old = .level → new.code = 0 → c' = c)
    ∧ (old = .level → new.code ≠ 0 → c'.latch = (c.latch && !c.acked) ∧ c'.acked = false)
    ∧ (old ≠ .level → new.code = 0 → c'.latch = (c.latch || c.condition) ∧ c'.acked = false)
    ∧ (old ≠ .level → new.code ≠ 0 → c' = c) := by
  cases old <;> cases new <;> simp [CauseState.convert, AlertMode.code]

theorem State.housekept_keeps (f : HousekeepingFields) (s : State) : Keeps [.health, .session] s (s.housekept f) := by
  intro p hp; cases p <;> first | rfl | exact absurd hp (by decide)

/-- Settles O16: each word's operand is checked whole, and the taken fields reach the accounts, the walker and the causes. -/
theorem settingsWritesTakeAllFieldsOrNone : Obligations.SettingsWritesTakeAllFieldsOrNone := by
  unfold Obligations.SettingsWritesTakeAllFieldsOrNone
  refine ⟨fun s tag v hready => ⟨fun hv => ?thresholds, fun hv => ?thresholdsRefused⟩,
    fun s tag v hready => ⟨fun hv => ?timing, fun hv => ?timingRefused⟩,
    fun s tag v hready => ⟨fun hv => ?housekeeping, fun hv => ?housekeepingRefused⟩⟩
  case thresholds =>
    have hu := State.writeThresholds_of_valid ((thresholdsOperand_valid_iff v).2 hv) s
    have hk : Keeps [.health, .alerts] s (s.writeThresholds v).2 := State.writeThresholds_keeps v s
    have hm := State.writeThresholds_moved v s
    rw [hu] at hk hm
    refine ⟨_, _, rfl, State.acceptWordWrite_taken hready (by decide) (.inr rfl) rfl hu ?_, ?_, ?_, ?_, fun r => ?_, hm, hk⟩
    · rw [hk.rt (by decide)]
    · rw [retest_accountOp.forEach_thresholds]; exact thresholdsOperand_eq v
    · exact retest_accountOp.forEach_decayInterval _
    · exact retest_accountOp.forEach_decayTimer _
    · have h := State.retested_account_cause (thresholdsOperand v) r s
      rw [thresholdsOperand_eq] at h ⊢
      exact h
  case thresholdsRefused =>
    have hinvalid : (thresholdsOperand v).valid = false :=
      Bool.eq_false_iff.2 fun h => hv ((thresholdsOperand_valid_iff v).1 h)
    exact ⟨_, rfl, State.acceptWordWrite_refused hready (by decide) (.inr rfl) rfl (State.writeThresholds_of_invalid hinvalid s)
      (by decide)⟩
  case timing =>
    have hu := State.writeTiming_of_valid ((timingOperand_valid_iff v).2 hv) s
    obtain ⟨hon, hinterval, hpointer, hpass, hop, hstart, hstay, hrun, hbusy⟩ :=
      s.scrub.retime_spec (v.getLsbD 22) (v.toNat / 2 ^ 6 % 65536)
    refine ⟨_, _, rfl, State.acceptWordWrite_taken hready (by decide) (.inr rfl) rfl hu rfl, ?_, rfl, hon, hinterval, hpointer,
      hpass, hop, hstart, hstay, hrun, hbusy, State.retimed_keeps _ s⟩
    simp [State.retimed, timingOperand, Word.field]
  case timingRefused =>
    have hinvalid : (timingOperand v).valid = false :=
      Bool.eq_false_iff.2 fun h => hv.elim ((timingOperand_valid_iff v).1 h).1 ((timingOperand_valid_iff v).1 h).2
    exact ⟨_, rfl, State.acceptWordWrite_refused hready (by decide) (.inr rfl) rfl (State.writeTiming_of_invalid hinvalid s)
      (by decide)⟩
  case housekeeping =>
    obtain ⟨f, hf, hdecay, hidle, hmodes⟩ := housekeepingOperand_of_valid hv.1 hv.2
    have hu := State.writeHousekeeping_of_some hf s
    have hop := setAlertMode_accountOp f.modes
    have hk : Keeps [.health, .session, .alerts] s (s.writeHousekeeping v).2 := State.writeHousekeeping_keeps v s
    have hsession : ((s.housekept f).forEach (State.setAlertMode f.modes)).session = (s.housekept f).session :=
      (State.forEach_keeps (L := [.health, .alerts]) (fun r s => State.setAlertMode_keeps f.modes r s) _).session (by decide)
    have hm := State.writeHousekeeping_moved v s
    rw [hu] at hk hm
    refine ⟨_, _, rfl, State.acceptWordWrite_taken hready (by decide) (.inr rfl) rfl hu ?_, ?_, ?_, ?_, ?_, fun r => ?_,
      fun r => ?_, hm, hk⟩
    · rw [hk.rt (by decide)]
    · exact hop.forEach_thresholds _
    · exact (hop.forEach_decayInterval _).trans hdecay
    · rw [hop.forEach_decayTimer, ← hdecay]; rfl
    · rw [hsession, ← hidle]; rfl
    · rw [hop.forEach_account]; exact ⟨hmodes r, rfl⟩
    · have hconvert := CauseState.convert_spec (s.account r).alertMode (f.modes.get r) (s.alerts.causes.get (.health r))
      rw [hmodes r] at hconvert
      rw [(setAlertMode_causeOp f.modes).forEach_cause hop]
      exact hconvert
  case housekeepingRefused =>
    exact ⟨_, rfl, State.acceptWordWrite_refused hready (by decide) (.inr rfl) rfl
      (State.writeHousekeeping_of_none (housekeepingOperand_of_invalid hv) s) (by decide)⟩

end Sys2Proof.Machine
end

section
/-! The alert unit's words (R184, R185), and the walker at an expiry of its interval (R132 to R134). -/

namespace Sys2Proof.Machine

open Sys2Proof

/-! ## ALERT_ACK and ALERT_ENABLE -/

/-- What an acknowledge does to a cause (R184). -/
def State.ackOf (s : State) : Cause → CauseState → CauseState
  | .health r => CauseState.healthAck (s.account r).alertMode
  | .queueFull | .degraded => CauseState.levelAck
  | .retire | .dataLoss | .recordsLost | .copyDone | .sessionExpired => CauseState.edgeAck

theorem State.acknowledge_eq (c : Cause) (s : State) : s.acknowledge c = s.updateCause c (s.ackOf c) := by
  cases c <;> rfl

theorem State.ackOf_of_keeps {L : List Part} {s t : State} (h : Keeps L s t) (hL : Part.health ∉ L) : t.ackOf = s.ackOf := by
  funext c
  cases c with
  | health r => exact congrArg (fun a : Account => CauseState.healthAck a.alertMode) (h.account hL r)
  | _ => rfl

/-- An acknowledge by the type of the cause (R178, R180). -/
theorem State.ackOf_spec (s : State) (c : Cause) (x : CauseState) :
    (s.isLevel c = false → s.ackOf c x = { x with latch := false })
    ∧ (s.isLevel c = true → x.condition = false → s.ackOf c x = { x with latch := false })
    ∧ (s.isLevel c = true → x.condition = true → s.ackOf c x = { x with acked := x.latch }) := by
  have hlevel (hx : Bool) (h : x.condition = hx) :
      CauseState.levelAck x = if hx then { x with acked := x.latch } else { x with latch := false } := by
    rw [CauseState.levelAck, h]
  cases c with
  | health r =>
    cases hmode : (s.account r).alertMode <;>
      simp +contextual [State.ackOf, State.isLevel, hmode, CauseState.healthAck, CauseState.edgeAck, CauseState.levelAck]
  | queueFull | degraded => simp +contextual [State.ackOf, State.isLevel, CauseState.levelAck]
  | _ => simp [State.ackOf, State.isLevel, CauseState.edgeAck]

/-- The causes that a written value names take an acknowledge. -/
def State.ackNamed (v : Word) (s : State) (c : Cause) : State := if v.bit c.position then s.acknowledge c else s

theorem State.ackNamed_keeps (v : Word) (s : State) (c : Cause) : Keeps [.alerts] s (s.ackNamed v c) := by
  unfold State.ackNamed
  split
  · rw [State.acknowledge_eq]; exact State.updateCause_keeps _ _ s
  · exact Keeps.refl _ s

theorem State.ackNamed_get (v : Word) (s : State) (c d : Cause) :
    (s.ackNamed v c).alerts.causes.get d =
      if d = c ∧ v.bit c.position = true then s.ackOf c (s.alerts.causes.get c) else s.alerts.causes.get d := by
  unfold State.ackNamed
  split
  · rename_i h
    rw [State.acknowledge_eq, State.updateCause_get]
    simp [h]
  · rename_i h
    simp [h]

theorem State.ackNamed_moved (v : Word) (s : State) (c : Cause) : AlertsMoved [c] s (s.ackNamed v c) := by
  unfold State.ackNamed
  split
  · rw [State.acknowledge_eq]; exact State.updateCause_moved c _ s
  · exact AlertsMoved.refl _ s

theorem State.foldl_ackNamed_keeps (v : Word) (l : List Cause) (s : State) :
    Keeps [.alerts] s (l.foldl (State.ackNamed v) s) := Keeps.foldl (State.ackNamed_keeps v) l s

theorem State.foldl_ackNamed_moved (v : Word) (l : List Cause) (s : State) :
    AlertsMoved Cause.all s (l.foldl (State.ackNamed v) s) := by
  induction l generalizing s with
  | nil => exact AlertsMoved.refl _ s
  | cons c l ih => exact ((State.ackNamed_moved v s c).mono (by simp [Cause.mem_all])).trans (ih _)

theorem State.foldl_ackNamed_get (v : Word) {l : List Cause} (hl : l.Nodup) (d : Cause) (s : State) :
    (l.foldl (State.ackNamed v) s).alerts.causes.get d =
      if d ∈ l ∧ v.bit d.position = true then s.ackOf d (s.alerts.causes.get d) else s.alerts.causes.get d := by
  induction l generalizing s with
  | nil => simp
  | cons c l ih =>
    obtain ⟨hc, hl⟩ := List.nodup_cons.1 hl
    rw [List.foldl_cons, ih hl, State.ackNamed_get, State.ackOf_of_keeps (State.ackNamed_keeps v s c) (by decide)]
    by_cases hd : d = c
    · subst hd; simp [hc]
    · simp [hd]

theorem State.writeAlertAck_of_defined {v : Word} (h : setsUndefined v = false) (s : State) :
    s.writeAlertAck v = (.done, Cause.all.foldl (State.ackNamed v) s) := by
  rw [State.writeAlertAck, h]
  rfl

theorem State.writeAlertEnable_of_defined {v : Word} (h : setsUndefined v = false) (s : State) :
    s.writeAlertEnable v = (.done, State.refreshLine { s with alerts := { s.alerts with enable := enableOperand v } }) := by
  rw [State.writeAlertEnable, h]
  rfl

theorem setsUndefined_iff (v : Word) : setsUndefined v = true ↔ 1024 ≤ v.toNat := by
  have hv : v.toNat / 2 ^ 10 < 2 ^ 54 := by have := v.isLt; omega
  simp only [setsUndefined, Word.field, Nat.mod_eq_of_lt hv, bne_iff_ne]
  omega

theorem enableOperand_get (v : Word) (c : Cause) : (enableOperand v).get c = v.getLsbD c.position := by
  cases c with
  | health r => cases r <;> rfl
  | _ => rfl

/-- Settles O17: the named causes take an acknowledge each, and the mask takes the value. -/
theorem alertWordWritesAct : Obligations.AlertWordWritesAct := by
  unfold Obligations.AlertWordWritesAct
  have hdefined {v : Word} (hv : v.toNat < 1024) : setsUndefined v = false :=
    Bool.eq_false_iff.2 fun h => Nat.not_le_of_lt hv ((setsUndefined_iff v).1 h)
  refine ⟨fun s tag v hready => ⟨fun hv => ?ack, fun hv => ?ackRefused⟩, fun s tag v hready => ⟨fun hv => ?enable, fun hv => ?enableRefused⟩⟩
  case ack =>
    have hk := State.foldl_ackNamed_keeps v Cause.all s
    have hm := State.foldl_ackNamed_moved v Cause.all s
    refine ⟨_, _, rfl, State.acceptWordWrite_taken hready (by decide) (.inl rfl) rfl
      (State.writeAlertAck_of_defined (hdefined hv) s) (by rw [hk.rt (by decide)]), fun c => ?_, hm.enable, hm.line, hk⟩
    obtain ⟨hedge, hfalse, htrue⟩ := s.ackOf_spec c (s.alerts.causes.get c)
    simp only [State.foldl_ackNamed_get v (show Cause.all.Nodup by decide), Cause.mem_all, true_and, Word.bit]
    refine ⟨fun h => if_neg (by simp [h]), fun h hl => ?_, fun h hl hc => ?_, fun h hl hc => ?_⟩
    · rw [if_pos h, hedge hl]
    · rw [if_pos h, hfalse hl hc]
    · rw [if_pos h, htrue hl hc]
  case ackRefused =>
    refine ⟨_, rfl, State.acceptWordWrite_refused hready (by decide) (.inl rfl) rfl (o := .refusedArgument) ?_ (by decide)⟩
    exact if_pos ((setsUndefined_iff v).2 hv)
  case enable =>
    refine ⟨_, _, rfl, State.acceptWordWrite_taken hready (by decide) (.inr rfl) rfl
      (State.writeAlertEnable_of_defined (hdefined hv) s) rfl, enableOperand_get v, rfl, State.refreshLine_lineWf _, ?_⟩
    intro p hp; cases p <;> first | rfl | exact absurd hp (by decide)
  case enableRefused =>
    refine ⟨_, rfl, State.acceptWordWrite_refused hready (by decide) (.inr rfl) rfl (o := .refusedArgument) ?_ (by decide)⟩
    exact if_pos ((setsUndefined_iff v).2 hv)

/-! ## The walker's choice (R133) -/

/-- Where no descriptor begins or has just ended, eligibility is that of the block below. -/
theorem Regions.eligible_succ {t : Regions} {b : Nat} (h : ∀ n : RegionId, t.descriptors[n].first ≠ b + 1 ∧ t.descriptors[n].last ≠ b) :
    t.eligible (b + 1) = t.eligible b := by
  have hcovers (n : RegionId) : t.descriptors[n].covers (b + 1) = t.descriptors[n].covers b := by
    obtain ⟨hfirst, hlast⟩ := h n
    have h1 : t.descriptors[n].first ≤ b + 1 ↔ t.descriptors[n].first ≤ b := by omega
    have h2 : b + 1 ≤ t.descriptors[n].last ↔ b ≤ t.descriptors[n].last := by omega
    rw [Descriptor.covers, decide_eq_decide.2 h1, decide_eq_decide.2 h2, Descriptor.covers]
  have hfind : t.descriptors.toList.find? (fun d => d.covers (b + 1)) = t.descriptors.toList.find? (fun d => d.covers b) := by
    refine List.find?_congr fun d hd => ?_
    obtain ⟨i, hi, rfl⟩ := List.mem_iff_getElem.1 hd
    rw [Vector.length_toList] at hi
    simpa using hcovers ⟨i, hi⟩
  have hfilling : t.filling (b + 1) = t.filling b := by
    unfold Regions.filling
    split
    · rfl
    · exact hcovers _
  simp only [Regions.eligible, Regions.lookup, hfind, hfilling]

theorem Regions.mem_candidates {t : Regions} {start b : Nat} :
    b ∈ t.candidates start ↔ b = start ∨ ∃ n : RegionId, b = t.descriptors[n].first ∨ b = t.descriptors[n].last + 1 := by
  simp only [Regions.candidates, List.mem_cons, List.mem_flatMap, List.not_mem_nil, or_false]
  refine or_congr_right ⟨fun ⟨d, hd, hb⟩ => ?_, fun ⟨n, hb⟩ => ⟨_, by simp, hb⟩⟩
  obtain ⟨i, hi, rfl⟩ := List.mem_iff_getElem.1 hd
  rw [Vector.length_toList] at hi
  exact ⟨⟨i, hi⟩, by simpa using hb⟩

/-- The lowest eligible block at or above `start` is a candidate. -/
theorem Regions.lowest_mem_candidates {t : Regions} {blocks start b : Nat} (hstart : start ≤ b) (hb : b < blocks)
    (heligible : t.eligible b = true) (hlowest : ∀ b', start ≤ b' → b' < b → ¬(b' < blocks ∧ t.eligible b' = true)) :
    b ∈ t.candidates start := by
  rw [Regions.mem_candidates]
  by_contra hn
  rw [not_or, not_exists] at hn
  obtain ⟨hne, hdescriptors⟩ := hn
  obtain ⟨c, rfl⟩ : ∃ c, b = c + 1 := ⟨b - 1, by omega⟩
  have hsame : t.eligible (c + 1) = t.eligible c :=
    Regions.eligible_succ fun n => ⟨fun h => hdescriptors n (.inl h.symm), fun h => hdescriptors n (.inr (by rw [h]))⟩
  exact hlowest c (by omega) (by omega) ⟨by omega, hsame ▸ heligible⟩

theorem Regions.mem_filter_candidates {t : Regions} {blocks start b : Nat}
    (h : b ∈ (t.candidates start).filter fun b => decide (start ≤ b) && decide (b < blocks) && t.eligible b) :
    start ≤ b ∧ b < blocks ∧ t.eligible b = true := by
  simpa [and_assoc] using (List.mem_filter.1 h).2

/-- The search returns the lowest eligible block of the span at or above `start`. -/
theorem Regions.nextEligible_of_lowest {t : Regions} {blocks start b : Nat} (hstart : start ≤ b) (hb : b < blocks)
    (heligible : t.eligible b = true) (hlowest : ∀ b', start ≤ b' → b' < b → ¬(b' < blocks ∧ t.eligible b' = true)) :
    t.nextEligible blocks start = some b := by
  refine List.min?_eq_some_iff.2 ⟨List.mem_filter.2 ⟨Regions.lowest_mem_candidates hstart hb heligible hlowest, ?_⟩, ?_⟩
  · simp [hstart, hb, heligible]
  · intro b' hb'
    obtain ⟨hstart', hblocks', heligible'⟩ := Regions.mem_filter_candidates hb'
    exact Nat.le_of_not_lt fun hlt => hlowest b' hstart' hlt ⟨hblocks', heligible'⟩

theorem Regions.nextEligible_of_none {t : Regions} {blocks start : Nat}
    (h : ∀ b, start ≤ b → ¬(b < blocks ∧ t.eligible b = true)) : t.nextEligible blocks start = none := by
  rw [Regions.nextEligible, List.min?_eq_none_iff, List.eq_nil_iff_forall_not_mem]
  intro b hb
  obtain ⟨hstart, hrest⟩ := Regions.mem_filter_candidates hb
  exact h b hstart hrest

/-! ## SCRUB_INTERVAL_EXPIRY (R131 to R134) -/

theorem exec_scrubIntervalExpiry {s : State} (hstate : s.scrub.state = .waiting ∨ s.scrub.state = .paused)
    (htimer : s.scrub.timer = some 0) : exec .scrubIntervalExpiry s = .next s.scrubExpiry := by
  change execScrubIntervalExpiry s = _
  unfold execScrubIntervalExpiry
  rcases hstate with h | h <;> rw [h, htimer] <;> rfl

section Expiry

variable {s : State} (hvoters : 2 ≤ s.votingCount) (hqueue : s.queue.length < Config.queueHigh)
include hvoters hqueue

theorem State.scrubExpiry_of_no_block (h : s.scrub.choose s.regions s.spanBlocks = none) :
    s.scrubExpiry = { s with scrub := s.scrub.pause .noBlocks } := by
  rw [State.scrubExpiry, if_neg (Nat.not_lt.2 hvoters), if_neg (Nat.not_le.2 hqueue), h]

theorem State.scrubExpiry_of_block {w : Scrub} (h : s.scrub.choose s.regions s.spanBlocks = some w) :
    s.scrubExpiry = State.scrubClaim { s with scrub := w } := by
  rw [State.scrubExpiry, if_neg (Nat.not_lt.2 hvoters), if_neg (Nat.not_le.2 hqueue), h]

end Expiry

theorem State.aheadOfScrub_or_drains_iff (s : State) (b : Nat) :
    (s.aheadOfScrub b || s.draining b) = true ↔
      s.OtherHolds .scrub b ∨ s.Drains b ∨ (¬s.NoOtherClaim .scrub b ∧ ¬s.IssuedFor b) := by
  have hclaims : (s.claims .repair b || s.claims .copy b) = true ↔ ¬s.NoOtherClaim .scrub b := by
    simp only [Bool.or_eq_true, State.claims_iff, State.NoOtherClaim, not_forall, not_not]
    refine ⟨fun h => h.elim (fun h => ⟨_, by decide, h⟩) fun h => ⟨_, by decide, h⟩, fun ⟨e, he, h⟩ => ?_⟩
    cases e with
    | repair => exact .inl h
    | copy => exact .inr h
    | scrub => exact absurd rfl he
  rw [Bool.or_eq_true, State.aheadOfScrub, Bool.or_eq_true, Bool.and_eq_true, Bool.not_eq_true', Bool.eq_false_iff, ne_eq,
    State.heldByOther_iff, State.draining_iff, State.issuedFor_iff, hclaims]
  tauto

/-- The walker that has chosen a block (R133). -/
def Scrub.chosen (w : Scrub) (b pass : Nat) : Scrub :=
  { w with state := .claiming, reason := .none, timer := none, pointer := b, passCount := pass }

/-- Settles O37: the pause conditions in their order, then the search, then the claim. -/
theorem scrubExpiryPausesOrClaims : Obligations.ScrubExpiryPausesOrClaims := by
  unfold Obligations.ScrubExpiryPausesOrClaims
  intro s hstate htimer paused chooses eligible
  have hpaused (reason : PauseReason) (h : s.scrubExpiry = { s with scrub := s.scrub.pause reason }) : paused reason :=
    ⟨_, exec_scrubIntervalExpiry hstate htimer, by rw [h]; rfl,
      h ▸ Keeps.with_scrub (by decide) (Keeps.refl _ s)⟩
  have hchooses (b pass : Nat) (h : s.scrubExpiry = State.scrubClaim { s with scrub := s.scrub.chosen b pass }) :
      chooses b pass := by
    simp only [chooses]
    refine ⟨_, exec_scrubIntervalExpiry hstate htimer, ?_⟩
    rw [h, State.scrubClaim]
    have htaken := State.aheadOfScrub_or_drains_iff { s with scrub := s.scrub.chosen b pass } b
    split
    · rename_i hskip
      exact ⟨fun hn => absurd (htaken.1 hskip) hn, fun _ => ⟨rfl, rfl⟩, rfl, rfl, rfl,
        (State.skipScrub_keeps _).after (by decide) (Keeps.with_scrub (by decide) (Keeps.refl _ s))⟩
    · rename_i hclaim
      exact ⟨fun _ => ⟨rfl, rfl⟩, fun hn => absurd (htaken.2 hn) hclaim, rfl, rfl, rfl,
        (State.setLock_keeps _ _ _).after (by decide) (Keeps.with_scrub (by decide) (Keeps.refl _ s))⟩
  refine ⟨fun h => hpaused _ (if_pos h), fun hv hq => hpaused _ ?high, fun hv hq hnone => hpaused _ ?none,
    fun b hv hq hb hpointer hlowest => hchooses b _ ?above, fun b hv hq hb hnone hlowest => hchooses b _ ?wrap⟩
  case high => exact (if_neg (Nat.not_lt.2 hv)).trans (if_pos hq)
  case none =>
    refine State.scrubExpiry_of_no_block hv hq ?_
    rw [Scrub.choose, Regions.nextEligible_of_none fun b _ => hnone b, Regions.nextEligible_of_none fun b _ => hnone b]
    rfl
  case above =>
    refine State.scrubExpiry_of_block hv hq ?_
    rw [Scrub.choose, Regions.nextEligible_of_lowest hpointer hb.1 hb.2 hlowest]
    rfl
  case wrap =>
    refine State.scrubExpiry_of_block hv hq ?_
    rw [Scrub.choose, Regions.nextEligible_of_none hnone,
      Regions.nextEligible_of_lowest (Nat.zero_le b) hb.1 hb.2 fun b' _ => hlowest b']
    rfl

end Sys2Proof.Machine
end

section
/-! What the engines do when an op of theirs has all its answers (R83 to R85, R118 to R125, R146, R152 to R154). -/

namespace Sys2Proof.Machine

open Sys2Proof

/-! ## The outcomes of an op's words -/

section Outcomes

variable {n : Nat} {word : Nat → WordOutcome}

theorem contains_outcomes (o : WordOutcome) :
    ((List.range n).map word).contains o = true ↔ ∃ k, k < n ∧ word k = o := by
  simp

theorem findIdx?_outcomes {p : WordOutcome → Bool} {q : WordOutcome → Prop} (hp : ∀ o, p o = true ↔ q o) {k : Nat}
    (h : FirstWord n word q k) : ((List.range n).map word).findIdx? p = some k := by
  obtain ⟨hk, hq, hmin⟩ := h
  rw [List.findIdx?_eq_some_iff_getElem]
  exact ⟨by simpa using hk, by simpa [hp] using hq, fun j hj => by simpa [hp] using hmin j hj⟩

theorem firstWord_of_findIdx? {p : WordOutcome → Bool} {q : WordOutcome → Prop} (hp : ∀ o, p o = true ↔ q o) {k : Nat}
    (h : ((List.range n).map word).findIdx? p = some k) : FirstWord n word q k := by
  rw [List.findIdx?_eq_some_iff_getElem] at h
  obtain ⟨hk, hq, hmin⟩ := h
  exact ⟨by simpa using hk, by simpa [hp] using hq, fun j hj => by simpa [hp] using hmin j hj⟩

theorem findIdx?_outcomes_eq_none {p : WordOutcome → Bool} :
    ((List.range n).map word).findIdx? p = none ↔ ∀ k, k < n → p (word k) = false := by
  simp

theorem beq_divergent_iff (o : WordOutcome) : (o == .divergent) = true ↔ o = .divergent := beq_iff_eq

/-- The first divergent word of an op that has one. -/
theorem exists_firstWord_divergent (h : ∃ k, k < n ∧ word k = .divergent) :
    ∃ k, ((List.range n).map word).findIdx? (· == .divergent) = some k ∧ FirstWord n word (· = .divergent) k := by
  cases hfind : ((List.range n).map word).findIdx? (· == .divergent) with
  | some k => exact ⟨k, rfl, firstWord_of_findIdx? beq_divergent_iff hfind⟩
  | none =>
    obtain ⟨k, hk, hdivergent⟩ := h
    have := findIdx?_outcomes_eq_none.1 hfind k hk
    simp [hdivergent] at this

theorem WordOutcome.outvotes_iff (r : Replica) (o : WordOutcome) : o.outvotes r = true ↔ ∃ v, o = .corrected v r := by
  cases o <;> simp [WordOutcome.outvotes]

theorem WordOutcome.isCorrected_iff (o : WordOutcome) : o.isCorrected = true ↔ ∃ v r, o = .corrected v r := by
  cases o <;> simp [WordOutcome.isCorrected]

variable (first : Nat) (who errors : ReplicaSet)

theorem findings_outvoted (r : Replica) :
    (findings first ((List.range n).map word) who errors).outvoted.get r = true ↔ ∃ k, k < n ∧ ∃ v, word k = .corrected v r := by
  simp [findings, WordOutcome.outvotes_iff]

theorem findings_outvotedWord {k : Nat} (h : FirstWord n word (fun o => ∃ v r, o = .corrected v r) k) :
    (findings first ((List.range n).map word) who errors).outvotedWord = some (first + k) := by
  simp [findings, findIdx?_outcomes WordOutcome.isCorrected_iff h]

theorem findings_divergentMask (r : Replica) :
    (findings first ((List.range n).map word) who errors).divergentMask.get r = true ↔
      (∃ k, k < n ∧ word k = .divergent) ∧ who.get r = true := by
  simp only [findings]
  split
  · rename_i h; simp [(contains_outcomes _).1 h]
  · rename_i h; simpa using fun k hk hd => absurd ((contains_outcomes _).2 ⟨k, hk, hd⟩) h

theorem findings_divergentWord {k : Nat} (h : FirstWord n word (· = .divergent) k) :
    (findings first ((List.range n).map word) who errors).divergentWord = some (first + k) := by
  simp [findings, findIdx?_outcomes beq_divergent_iff h]

end Outcomes

/-- Values can differ only where a replica contributes one. -/
theorem exists_get_of_voteWord_divergent {t : Tri (Option Word)} (h : voteWord t = .divergent) : ∃ r v, t.get r = some v := by
  obtain ⟨a, b, c⟩ := t
  cases a with
  | some x => exact ⟨.a, x, rfl⟩
  | none =>
    cases b with
    | some x => exact ⟨.b, x, rfl⟩
    | none =>
      cases c with
      | some x => exact ⟨.c, x, rfl⟩
      | none => exact absurd h (by decide)

theorem State.contributes_of_valueOf {s : State} {answers : Tri (Option OpAnswer)} {k : Nat} {r : Replica} {v : Word}
    (h : s.valueOf answers k r = some v) : s.Contributes answers r := by
  unfold State.valueOf at h
  split at h
  · rename_i words hwords
    split at h
    · rename_i hvotes; exact ⟨hvotes, words, hwords⟩
    · cases h
  · cases h

theorem State.contributes_of_divergent {s : State} {answers : Tri (Option OpAnswer)} {k : Nat}
    (h : s.wordVote answers k = .divergent) : ∃ r, s.Contributes answers r := by
  obtain ⟨r, v, hv⟩ := exists_get_of_voteWord_divergent h
  cases r <;> exact ⟨_, State.contributes_of_valueOf hv⟩

theorem answered_error_inter_voting_get (s : State) (answers : Tri (Option OpAnswer)) (r : Replica) :
    ((answered answers .error).inter s.voting).get r = true ↔ (s.account r).votes = true ∧ answers.get r = some .error := by
  simp [answered, State.voting_get, and_comm]

/-! ## The walker's read (R83, R84, R136) -/

/-- The findings of the walker's read (R83). -/
def State.scrubFindings (answers : Tri (Option OpAnswer)) (s : State) : ReadFindings :=
  findings 0 (voteWords (s.contributing answers) 8) (contributors (s.contributing answers))
    ((answered answers .error).inter s.voting)

/-- The reports of the walker's read (R83, R84). -/
def State.scrubReported (answers : Tri (Option OpAnswer)) (s : State) : State :=
  let t := s.reportRead .scrub s.scrub.pointer (s.scrubFindings answers)
  if (s.scrubFindings answers).divergentMask.isEmpty then t else t.raise .dataLoss

theorem State.decideScrub_of_out {s : State} {answers : Tri (Option OpAnswer)} (h : s.scrub.op = .out answers) :
    s.decideScrub = (s.scrubReported answers).endScrubRead := by
  unfold State.decideScrub
  rw [h]
  rfl

theorem State.scrubReported_keeps (answers : Tri (Option OpAnswer)) (s : State) : Keeps decisionParts s (s.scrubReported answers) := by
  unfold State.scrubReported
  simp only
  split
  · exact State.reportRead_keeps _ _ _ _
  · exact (State.raise_keeps _ _).after (by decide) (State.reportRead_keeps _ _ _ _)

theorem State.scrubFindings_divergentMask (answers : Tri (Option OpAnswer)) (s : State) (r : Replica) :
    (s.scrubFindings answers).divergentMask.get r = true ↔
      (∃ k, k < 8 ∧ s.wordVote answers k = .divergent) ∧ s.Contributes answers r := by
  rw [State.scrubFindings, State.voteWords_contributing, findings_divergentMask, State.contributors_iff]

/-- Settles O41: the findings, the reports, the release, and the end of the visit. -/
theorem scrubReadEndsItsVisit : Obligations.ScrubReadEndsItsVisit := by
  unfold Obligations.ScrubReadEndsItsVisit
  refine ⟨fun s answers hop => ?decision, fun w last => ?visit⟩
  case decision =>
    have hmask := State.scrubFindings_divergentMask answers s
    refine ⟨s.scrubFindings answers, s.scrubReported answers, _, fun r => ?_, fun k hk => ?_, fun r => ?_, hmask, fun k hk => ?_,
      fun hd => if_neg ?_, fun hn => if_pos ?_, rfl, ?_⟩
    · rw [State.scrubFindings, State.voteWords_contributing, findings_outvoted]
    · rw [State.scrubFindings, State.voteWords_contributing, findings_outvotedWord _ _ _ hk, Nat.zero_add]
    · exact answered_error_inter_voting_get s answers r
    · rw [State.scrubFindings, State.voteWords_contributing, findings_divergentWord _ _ _ hk, Nat.zero_add]
    · obtain ⟨k, hlt, hk⟩ := hd
      obtain ⟨r, hr⟩ := State.contributes_of_divergent hk
      rw [Bool.not_eq_true, Tri.isEmpty_eq_false_iff]
      exact ⟨r, (hmask r).2 ⟨⟨k, hlt, hk⟩, hr⟩⟩
    · rw [Tri.isEmpty_iff]
      exact fun r => Bool.eq_false_iff.2 fun hr => hn ((hmask r).1 hr).1
    · have hreported : (s.scrubReported answers).spanBlocks = s.spanBlocks := (s.scrubReported_keeps answers).spanBlocks (by decide)
      have hspan : (State.releaseLock .scrub { s.scrubReported answers with
          scrub := { (s.scrubReported answers).scrub with op := .none } }).spanBlocks = s.spanBlocks :=
        ((State.releaseLock_keeps _ _).spanBlocks (by decide)).trans hreported
      rw [State.decideScrub_of_out hop, State.endScrubRead, ← hspan]
  case visit =>
    exact ⟨fun h => ⟨if_pos h, if_pos h⟩, fun h => ⟨if_neg (Nat.not_lt.2 h), if_neg (Nat.not_lt.2 h)⟩,
      fun h => ⟨if_pos h, if_pos h⟩, fun h => ⟨if_neg (by simp [h]), if_neg (by simp [h])⟩, rfl, rfl, rfl, rfl⟩

/-! ## The repair engine (R118 to R125) -/

theorem State.decideRepair_of_read {s : State} {answers : Tri (Option OpAnswer)} (h : s.repair.op = .out answers)
    (hphase : s.repair.phase = .read) : s.decideRepair = s.decideRepairRead answers := by
  unfold State.decideRepair
  rw [h, hphase]

theorem State.decideRepair_of_write {s : State} {answers : Tri (Option OpAnswer)} (h : s.repair.op = .out answers)
    (hphase : s.repair.phase = .write) : s.decideRepair = s.endRepairWrite answers := by
  unfold State.decideRepair
  rw [h, hphase]

theorem State.decideRepair_of_verify {s : State} {answers : Tri (Option OpAnswer)} (h : s.repair.op = .out answers)
    (hphase : s.repair.phase = .verify) : s.decideRepair = s.verifyOutcome answers := by
  unfold State.decideRepair
  rw [h, hphase]

theorem contributors_isEmpty_iff (s : State) (answers : Tri (Option OpAnswer)) :
    (contributors (s.contributing answers)).isEmpty = true ↔ ∀ r, ¬s.Contributes answers r := by
  simp only [Tri.isEmpty_iff, Bool.eq_false_iff, ne_eq, State.contributors_iff]

section RepairRead

variable {s : State} {answers : Tri (Option OpAnswer)}

theorem State.decideRepairRead_of_nobody (h : ∀ r, ¬s.Contributes answers r) :
    s.decideRepairRead answers = State.endRepair (s.recordEvent
      { kind := .repairAbandoned, origin := .repair, block := s.repair.block, mask := s.repair.mask.inter s.voting,
        word := none, queued := false }) :=
  if_pos ((contributors_isEmpty_iff s answers).2 h)

theorem State.decideRepairRead_of_divergent (h : ∃ r, s.Contributes answers r)
    (hd : ∃ k, k < 8 ∧ s.wordVote answers k = .divergent) : ∃ k, FirstWord 8 (s.wordVote answers) (· = .divergent) k
      ∧ s.decideRepairRead answers = State.endRepair (State.raise .dataLoss (s.recordEvent
          { kind := .divergent, origin := .repair, block := s.repair.block, mask := contributors (s.contributing answers),
            word := some k, queued := false })) := by
  obtain ⟨k, hfind, hfirst⟩ := exists_firstWord_divergent hd
  refine ⟨k, hfirst, ?_⟩
  have hsome : ¬(contributors (s.contributing answers)).isEmpty = true := fun hn => by
    obtain ⟨r, hr⟩ := h
    exact (contributors_isEmpty_iff s answers).1 hn r hr
  rw [State.decideRepairRead, if_neg hsome, State.voteWords_contributing, if_pos ((contains_outcomes _).2 hd), hfind]

theorem State.decideRepairRead_of_agreed (h : ∃ r, s.Contributes answers r)
    (hd : ¬∃ k, k < 8 ∧ s.wordVote answers k = .divergent) :
    s.decideRepairRead answers = s.beginRepairWrite ((List.range 8).map fun k => (s.wordVote answers k).value) := by
  have hsome : ¬(contributors (s.contributing answers)).isEmpty = true := fun hn => by
    obtain ⟨r, hr⟩ := h
    exact (contributors_isEmpty_iff s answers).1 hn r hr
  rw [State.decideRepairRead, if_neg hsome, State.voteWords_contributing, if_neg fun hc => hd ((contains_outcomes _).1 hc),
    List.map_map]
  rfl

end RepairRead

theorem State.writeSet_grants (x : Tri (Option OpAnswer)) : GrantsKeep fun t => t.repair.writeSet = x where
  table := fun _ _ hk hs => by simpa only [hk.repair (by decide)] using hs
  granted := fun e s hs => by
    cases e with
    | repair => exact hs
    | scrub => exact hs
    | copy =>
      unfold State.engineGranted
      simp only
      split <;> exact hs
  visit := fun _ _ => id
  op := fun e _ _ hs => by cases e <;> exact hs
  emptied := fun _ _ => id
  assertAbort := fun _ _ => id
  marked := fun _ _ => id

theorem Repair.retire_writeSet (a : Repair) (r : Replica) : (a.retire r).writeSet = a.writeSet := by
  unfold Repair.retire
  split <;> rfl

theorem State.retireCore_writeSet (r : Replica) (reason : RetireReason) (s : State) :
    (s.retireCore r reason).repair.writeSet = s.repair.writeSet := by
  rw [State.retireCore_eq, (State.retireFromQueue_keeps r _).repair (by decide)]
  refine (State.writeSet_grants _).retirePort r ?_
  exact (Repair.retire_writeSet _ r).trans (congrArg Repair.writeSet ((State.retireAccount_keeps r reason s).repair (by decide)))

/-- The end of a copy leaves the answers of the repair's WRITE (R125). -/
theorem State.copyEnd_writeSet (o : CopyOutcome) (s : State) : (s.copyEnd o).repair.writeSet = s.repair.writeSet := by
  have hstopped : (s.copyStopped o).repair.writeSet = s.repair.writeSet := (State.writeSet_grants _).abandon .copy rfl
  have hclosed : (s.copyClosed o).repair.writeSet = s.repair.writeSet := by
    rw [State.copyClosed, (State.raise_keeps _ _).repair (by decide), ← hstopped]
    unfold State.copyHandOver
    split
    · rfl
    · rfl
    · split
      · rw [(State.joinRebuilt_keeps _ _ _).repair (by decide)]
      · exact State.retireCore_writeSet _ _ _
  rw [State.copyEnd_eq]
  split
  · exact hclosed
  · rw [(State.settleRunCount_keeps _).repair (by decide), hclosed]

theorem State.targetFailure_writeSet (r : Replica) (s : State) : (s.targetFailure r).repair.writeSet = s.repair.writeSet := by
  unfold State.targetFailure
  split
  · exact State.copyEnd_writeSet _ _
  · rfl

/-- What a fold over the replicas does when a set names one of them, or none. -/
theorem foldl_named_of_only {f : Replica → State → State} {m : ReplicaSet} {r : Replica} (h : ∀ q, m.get q = true ↔ q = r)
    (s : State) : Replica.all.foldl (fun s q => if m.get q then f q s else s) s = f r s := by
  cases r <;> simp [Replica.all, h]

theorem foldl_named_of_nobody {f : Replica → State → State} {m : ReplicaSet} (h : ∀ q, m.get q = false) (s : State) :
    Replica.all.foldl (fun s q => if m.get q then f q s else s) s = s := by
  simp [Replica.all, h]

/-- The state in which the repair's WRITE has been noted and a failed target of it reported (R120, R125). -/
def State.writeNoted (answers : Tri (Option OpAnswer)) (s : State) : State :=
  let failed := (answeredBad answers).inter (Tri.ofOption s.repair.target)
  Replica.all.foldl (fun s r => if failed.get r then s.targetFailure r else s)
    { s with repair := { s.repair with writeSet := answers, targetReported := !failed.isEmpty } }

theorem State.endRepairWrite_eq (answers : Tri (Option OpAnswer)) (s : State) :
    s.endRepairWrite answers = { s.writeNoted answers with
      repair := { (s.writeNoted answers).repair with
        phase := .verify, op := readyOp (s.writeNoted answers).repairVerifySet } } := rfl

theorem failedTarget_get (answers : Tri (Option OpAnswer)) (target : Option Replica) (r : Replica) :
    ((answeredBad answers).inter (Tri.ofOption target)).get r = true ↔ AnsweredBadly answers r ∧ target = some r := by
  rw [Tri.get_inter, Bool.and_eq_true, answeredBad_iff, Tri.get_ofOption, decide_eq_true_eq]

theorem State.writeNoted_of_failed {answers : Tri (Option OpAnswer)} {s : State} {r : Replica} (ht : s.repair.target = some r)
    (hr : AnsweredBadly answers r) :
    s.writeNoted answers =
      State.targetFailure r { s with repair := { s.repair with writeSet := answers, targetReported := true } } := by
  have hget (q : Replica) : ((answeredBad answers).inter (Tri.ofOption s.repair.target)).get q = true ↔ q = r := by
    rw [failedTarget_get, ht]
    exact ⟨fun h => (Option.some.inj h.2).symm, fun h => ⟨h ▸ hr, by rw [h]⟩⟩
  have hsome : ((answeredBad answers).inter (Tri.ofOption s.repair.target)).isEmpty = false :=
    (Tri.isEmpty_eq_false_iff _).2 ⟨r, (hget r).2 rfl⟩
  rw [State.writeNoted, foldl_named_of_only hget, hsome]
  rfl

theorem State.writeNoted_of_not_failed {answers : Tri (Option OpAnswer)} {s : State}
    (h : ∀ r, s.repair.target = some r → ¬AnsweredBadly answers r) :
    s.writeNoted answers = { s with repair := { s.repair with writeSet := answers, targetReported := false } } := by
  have hget (q : Replica) : ((answeredBad answers).inter (Tri.ofOption s.repair.target)).get q = false :=
    Bool.eq_false_iff.2 fun hq => h q ((failedTarget_get _ _ _).1 hq).2 ((failedTarget_get _ _ _).1 hq).1
  rw [State.writeNoted, foldl_named_of_nobody hget, (Tri.isEmpty_iff _).2 hget]
  rfl

theorem State.writeNoted_writeSet (answers : Tri (Option OpAnswer)) (s : State) :
    (s.writeNoted answers).repair.writeSet = answers :=
  targetFailures_keep (P := fun t => t.repair.writeSet = answers) (fun r t ht => (State.targetFailure_writeSet r t).trans ht) _ _ rfl

theorem Repair.failed_get (a : Repair) (answers : Tri (Option OpAnswer)) (r : Replica) :
    (a.failed answers).get r = true ↔
      AnsweredBadly a.writeSet r ∨ (answers.get r ≠ none ∧ answers.get r ≠ some (.ok a.values)) := by
  rw [Repair.failed, Tri.get_ofFn, Bool.or_eq_true, answeredBad_iff]
  refine or_congr_right ?_
  split <;> simp_all

/-- One charge of a list of charges (R75). -/
def State.chargeAs (kinds : Tri (Option ChargeKind)) (r : Replica) (s : State) : State :=
  match kinds.get r with
  | some k => s.charge r k
  | none => s

theorem State.charges_eq (kinds : Tri (Option ChargeKind)) (s : State) : s.charges kinds = s.forEach (State.chargeAs kinds) := rfl

theorem State.chargeAs_of_some {kinds : Tri (Option ChargeKind)} {r : Replica} {k : ChargeKind} (h : kinds.get r = some k)
    (s : State) : s.chargeAs kinds r = s.charge r k := by
  rw [State.chargeAs, h]

theorem State.chargeAs_of_none {kinds : Tri (Option ChargeKind)} {r : Replica} (h : kinds.get r = none) (s : State) :
    s.chargeAs kinds r = s := by
  rw [State.chargeAs, h]

theorem State.forEach_congr {f g : Replica → State → State} (h : ∀ r u, f r u = g r u) (s : State) : s.forEach f = s.forEach g := by
  rw [show f = g from funext fun r => funext fun u => h r u]

/-- Charges of one kind for a set of replicas. -/
theorem State.charges_named (m : ReplicaSet) (k : ChargeKind) (s : State) :
    s.charges (Tri.ofFn fun r => if m.get r then some k else none) =
      s.forEach fun r u => if m.get r = true then u.charge r k else u := by
  rw [State.charges_eq]
  refine State.forEach_congr (fun r u => ?_) s
  split
  · rename_i h; exact State.chargeAs_of_some (by simp [h]) u
  · rename_i h; exact State.chargeAs_of_none (by simp [h]) u

/-- The failed voters of a verification (R121, R122). -/
def State.verifyVoters (answers : Tri (Option OpAnswer)) (s : State) : ReplicaSet := (s.repair.failed answers).inter s.voting

/-- The failed rebuild target of a verification, not yet reported (R122, R125). -/
def State.verifyTargets (answers : Tri (Option OpAnswer)) (s : State) : ReplicaSet :=
  if s.repair.targetReported then Tri.nobody
  else ((s.repair.failed answers).inter (Tri.ofOption s.repair.target)).diff s.voting

/-- The re-insertion of a verification (R122). -/
def State.verifyInsertion (answers : Tri (Option OpAnswer)) (s : State) : State × Bool :=
  if (s.verifyVoters answers).isEmpty then (s, false) else s.reinsert (s.verifyVoters answers)

theorem State.verifyOutcome_eq (answers : Tri (Option OpAnswer)) (s : State) :
    s.verifyOutcome answers = State.endRepair (State.recordEvent
      { kind := .repairFailed, origin := .repair, block := s.repair.block, mask := s.verifyVoters answers, word := none,
        queued := (s.verifyInsertion answers).2 }
      (State.forEach (fun r u => if (s.verifyTargets answers).get r = true then u.targetFailure r else u)
        (State.forEach (fun r u => if (s.verifyVoters answers).get r = true then u.charge r .repairFailed else u)
          (s.verifyInsertion answers).1))) := by
  rw [← State.charges_named]
  rfl

theorem State.verifyTargets_get (answers : Tri (Option OpAnswer)) (s : State) (r : Replica) :
    (s.verifyTargets answers).get r = true ↔ (s.repair.failed answers).get r = true ∧ (s.account r).votes = false
      ∧ s.repair.target = some r ∧ s.repair.targetReported = false := by
  unfold State.verifyTargets
  cases s.repair.targetReported with
  | true => simp
  | false =>
    simp only [Bool.false_eq_true, if_false, Tri.get_diff, Tri.get_inter, Tri.get_ofOption, State.voting_get, Bool.and_eq_true,
      decide_eq_true_eq, Bool.not_eq_true', and_true]
    tauto

/-- Settles O42: each phase's decision by its own test. -/
theorem repairDecisionsAct : Obligations.RepairDecisionsAct := by
  unfold Obligations.RepairDecisionsAct
  refine ⟨fun s => ⟨rfl, rfl, rfl⟩, fun s answers hop hphase => ?read, fun s answers hop hphase => ?write,
    fun s answers hop hphase => ?verify⟩
  case read =>
    intro word contributes diverges written
    have hwritten (r : Replica) : s.repairWriteSet.get r = true ↔ written r := by
      rw [State.repairWriteSet_get, State.writeTarget_eq_some_iff]
    rw [State.decideRepair_of_read hop hphase]
    refine ⟨fun hnobody => ⟨_, fun r => ?_, State.decideRepairRead_of_nobody hnobody⟩, fun hsome hd => ?_, fun hsome hd hnone => ?_,
      fun hsome hd hset => ⟨s.repairWriteSet, hwritten, ?_⟩⟩
    · rw [Tri.get_inter, State.voting_get, Bool.and_eq_true]
    · obtain ⟨k, hfirst, heq⟩ := State.decideRepairRead_of_divergent hsome hd
      exact ⟨k, _, hfirst, State.contributors_iff s answers, heq⟩
    · rw [State.decideRepairRead_of_agreed hsome hd]
      exact if_pos ((Tri.isEmpty_iff _).2 fun r => Bool.eq_false_iff.2 fun hr => hnone r ((hwritten r).1 hr))
    · obtain ⟨r, hr⟩ := hset
      have hne : ¬s.repairWriteSet.isEmpty = true := by
        rw [Bool.not_eq_true, Tri.isEmpty_eq_false_iff]
        exact ⟨r, (hwritten r).2 hr⟩
      rw [State.decideRepairRead_of_agreed hsome hd]
      exact if_neg hne
  case write =>
    refine ⟨s.writeNoted answers, fun r => State.writeNoted_of_failed, State.writeNoted_of_not_failed,
      (s.writeNoted answers).repairVerifySet, fun r => ?_, ?_⟩
    · rw [State.repairVerifySet_get, State.writeNoted_writeSet]
    · rw [State.decideRepair_of_write hop hphase, State.endRepairWrite_eq, readyOp_eq_stageOf]
  case verify =>
    refine ⟨s.verifyVoters answers, s.verifyTargets answers, s.verifyInsertion answers, fun r => ?_, fun r => ?_, fun hsome hlow => ?_,
      fun hnone => ?_, ?_⟩
    · rw [State.verifyVoters, Tri.get_inter, State.voting_get, Bool.and_eq_true, Repair.failed_get]
    · rw [State.verifyTargets_get, Repair.failed_get]
    · rw [State.verifyInsertion, if_neg (by rw [Bool.not_eq_true, Tri.isEmpty_eq_false_iff]; exact hsome), State.reinsert, if_pos hlow]
    · unfold State.verifyInsertion
      split
      · rfl
      · rename_i hne
        have hhigh : ¬s.repair.attempts < 2 := Nat.not_lt.2 (hnone.resolve_left fun h => hne ((Tri.isEmpty_iff _).2 h))
        rw [State.reinsert, if_neg hhigh]
    · rw [State.decideRepair_of_verify hop hphase, State.verifyOutcome_eq]

end Sys2Proof.Machine
end

section
/-! What the copy engine's decisions do (R146, R147, R152 to R154), and what the reports of a decision give (R73, R75 to R81). -/

namespace Sys2Proof.Machine

open Sys2Proof

/-! ## The copy engine (R146, R147, R152 to R154) -/

theorem State.decideCopy_of_fill {s : State} {n : RegionId} {answers : Tri (Option OpAnswer)} (hop : s.copy.op = .out answers)
    (hkind : s.copy.kind = .fill n) (hstep : s.copy.step = .write) : s.decideCopy = s.judgeFill answers := by
  unfold State.decideCopy
  rw [hop, hkind, hstep]

theorem State.decideCopy_of_read {s : State} {r : Replica} {answers : Tri (Option OpAnswer)} (hop : s.copy.op = .out answers)
    (hkind : s.copy.kind = .rebuild r) (hstep : s.copy.step = .read) : s.decideCopy = s.decideCopyRead r answers := by
  unfold State.decideCopy
  rw [hop, hkind, hstep]

theorem State.decideCopy_of_write {s : State} {r : Replica} {answers : Tri (Option OpAnswer)} (hop : s.copy.op = .out answers)
    (hkind : s.copy.kind = .rebuild r) (hstep : s.copy.step = .write) : s.decideCopy = s.endCopyWrite answers := by
  unfold State.decideCopy
  rw [hop, hkind, hstep]

/-- Whether a fill write reached a replica (R146). -/
def fillReached (answers : Tri (Option OpAnswer)) : Bool := !(answeredOk answers).isEmpty

theorem fillReached_iff (answers : Tri (Option OpAnswer)) : fillReached answers = true ↔ ∃ r w, answers.get r = some (.ok w) := by
  rw [fillReached, Bool.not_eq_true', Tri.isEmpty_eq_false_iff]
  simp only [answeredOk_get]

/-- The voting replicas that missed a fill write some replica acknowledged (R146). -/
def State.fillMissed (answers : Tri (Option OpAnswer)) (s : State) : ReplicaSet :=
  if fillReached answers then (answeredBad answers).inter s.voting else Tri.nobody

/-- The replicas that the record of a fill write names (R146). -/
def State.fillMask (answers : Tri (Option OpAnswer)) (s : State) : ReplicaSet :=
  if fillReached answers then s.fillMissed answers else (namedIn answers).inter s.voting

/-- The insertion of a fill write (R146). -/
def State.fillInsertion (answers : Tri (Option OpAnswer)) (s : State) : State × Bool :=
  if (s.fillMissed answers).isEmpty then (s, false) else s.insertRepair s.copy.pointer (s.fillMissed answers) 0

/-- The state in which a fill write has been recorded (R146). -/
def State.fillReported (answers : Tri (Option OpAnswer)) (s : State) : State :=
  State.recordEvent
    { kind := .writeMissed, origin := .fill, block := s.copy.pointer, mask := s.fillMask answers, word := none,
      queued := (s.fillInsertion answers).2 }
    ((s.fillInsertion answers).1.charges (writeMissedCharges ((answered answers .error).inter s.voting)))

theorem State.judgeFill_eq (answers : Tri (Option OpAnswer)) (s : State) :
    s.judgeFill answers =
      (if fillReached answers then s.fillReported answers else (s.fillReported answers).raise .dataLoss).copyAdvance := rfl

theorem State.fillMissed_get (answers : Tri (Option OpAnswer)) (s : State) (r : Replica) :
    (s.fillMissed answers).get r = true ↔
      (∃ r w, answers.get r = some (.ok w)) ∧ (s.account r).votes = true ∧ AnsweredBadly answers r := by
  rw [← fillReached_iff, State.fillMissed]
  cases fillReached answers with
  | false => simp
  | true => simp [State.voting_get, answeredBad_iff, and_comm]

theorem State.fillMask_get (answers : Tri (Option OpAnswer)) (s : State) (r : Replica) :
    (s.fillMask answers).get r = true ↔ (s.fillMissed answers).get r = true
      ∨ (¬(∃ r w, answers.get r = some (.ok w)) ∧ (s.account r).votes = true ∧ (answers.get r).isSome = true) := by
  rw [← fillReached_iff, State.fillMask, State.fillMissed]
  cases fillReached answers with
  | false => simp [State.voting_get, namedIn, and_comm]
  | true => simp

/-- The word that a skipped block's record names (R152). -/
theorem State.decideCopyRead_of_failed {s : State} {answers : Tri (Option OpAnswer)} (r : Replica)
    (h : ∃ k, k < 8 ∧ (s.wordVote answers k).status = .failed) : ∃ k : Nat,
      (FirstWord 8 (s.wordVote answers) (· = .divergent) k ∨ (k = 0 ∧ ∀ j, j < 8 → s.wordVote answers j ≠ .divergent))
      ∧ s.decideCopyRead r answers = State.copyAdvance (State.raise .dataLoss (State.recordEvent
          { kind := .rebuildSkipped, origin := .rebuild, block := s.copy.pointer, mask := Tri.only r, word := some k,
            queued := false }
          { s with copy := { s.copy with skipCount := s.copy.skipCount + 1 } })) := by
  have hany : ((List.range 8).map (s.wordVote answers)).any (fun o => o.status == .failed) = true := by simpa using h
  refine ⟨(((List.range 8).map (s.wordVote answers)).findIdx? (· == .divergent)).getD 0, ?_, ?_⟩
  · cases hfind : ((List.range 8).map (s.wordVote answers)).findIdx? (· == .divergent) with
    | some k => exact .inl (firstWord_of_findIdx? beq_divergent_iff hfind)
    | none => exact .inr ⟨rfl, fun j hj => by simpa using findIdx?_outcomes_eq_none.1 hfind j hj⟩
  · rw [State.decideCopyRead, State.voteWords_contributing, if_pos hany]

theorem State.decideCopyRead_of_agreed {s : State} {answers : Tri (Option OpAnswer)} (r : Replica)
    (h : ∀ k, k < 8 → (s.wordVote answers k).status ≠ .failed) :
    s.decideCopyRead r answers =
      { s with
        copy :=
          { s.copy with
            step := .write, values := (List.range 8).map fun k => (s.wordVote answers k).value, op := .ready (Tri.only r) } } := by
  have hany : ¬((List.range 8).map (s.wordVote answers)).any (fun o => o.status == .failed) = true := by
    simpa using h
  rw [State.decideCopyRead, State.voteWords_contributing, if_neg hany, List.map_map]
  rfl

theorem answeredBad_isEmpty_iff (answers : Tri (Option OpAnswer)) :
    (answeredBad answers).isEmpty = true ↔ ∀ q, ¬AnsweredBadly answers q := by
  simp only [Tri.isEmpty_iff, Bool.eq_false_iff, ne_eq, answeredBad_iff]

/-- Settles O43: each step's decision by its own test, and the advance. -/
theorem copyDecisionsAct : Obligations.CopyDecisionsAct := by
  unfold Obligations.CopyDecisionsAct
  refine ⟨fun s => ⟨fun h => if_pos (beq_iff_eq.2 h), fun h => if_neg (by simpa using h)⟩,
    fun s n answers hop hkind hstep => ?fill, fun s r answers hop hkind hstep => ?read, fun s r answers hop hkind hstep => ?write⟩
  case fill =>
    rw [State.decideCopy_of_fill hop hkind hstep, State.judgeFill_eq]
    refine ⟨s.fillMissed answers, (answered answers .error).inter s.voting, s.fillMask answers, s.fillInsertion answers,
      s.fillReported answers, fun r => State.fillMissed_get answers s r, fun r => answered_error_inter_voting_get s answers r,
      fun r => State.fillMask_get answers s r, fun hsome => if_neg ?_, fun hnone => if_pos ((Tri.isEmpty_iff _).2 hnone), ?_,
      fun hr => ?_, fun hr => ?_⟩
    · rw [Bool.not_eq_true, Tri.isEmpty_eq_false_iff]; exact hsome
    · rw [← State.charges_named]; rfl
    · rw [(fillReached_iff answers).2 hr, if_pos rfl]
    · rw [Bool.eq_false_iff.2 (mt (fillReached_iff answers).1 hr), if_neg (by decide)]
  case read =>
    rw [State.decideCopy_of_read hop hkind hstep]
    exact ⟨State.decideCopyRead_of_failed r, State.decideCopyRead_of_agreed r⟩
  case write =>
    rw [State.decideCopy_of_write hop hkind hstep, State.endCopyWrite]
    refine ⟨fun h => if_pos ((answeredBad_isEmpty_iff answers).2 h), fun ⟨q, hq⟩ => if_neg fun h => ?_⟩
    exact (answeredBad_isEmpty_iff answers).1 h q hq

/-! ## The reports of a read (R75 to R78) -/

theorem anyStored_eq (stored mask : ReplicaSet) :
    anyStored stored mask = ((stored.a && mask.a) || (stored.b && mask.b) || (stored.c && mask.c)) := Bool.not_not _

/-- The charges of a read (R76, R77). -/
theorem State.charges_findings (f : ReadFindings) (s : State) :
    s.charges (Tri.ofFn fun r =>
      if f.outvoted.get r then some .miscompare else if f.errors.get r then some .readError else none) =
      s.forEach fun r u =>
        if f.outvoted.get r = true then u.charge r .miscompare
        else if f.errors.get r = true then u.charge r .readError
        else u := by
  rw [State.charges_eq]
  refine State.forEach_congr (fun r u => ?_) s
  split
  · rename_i h; exact State.chargeAs_of_some (by simp [h]) u
  · rename_i h
    split
    · rename_i he; exact State.chargeAs_of_some (by simp [h, he]) u
    · rename_i he; exact State.chargeAs_of_none (by simp [h, he]) u

theorem State.reportRead_eq (origin : Origin) (block : Nat) (f : ReadFindings) (s : State) :
    s.reportRead origin block f =
      State.recordEvent { kind := .divergent, origin := origin, block := block, mask := f.divergentMask, word := f.divergentWord,
                          queued := false }
        (State.recordEvent { kind := .readError, origin := origin, block := block, mask := f.errors, word := none,
                             queued := anyStored (s.insertEach block (f.outvoted.union f.errors)).2 f.errors }
          (State.recordEvent { kind := .miscompare, origin := origin, block := block, mask := f.outvoted, word := f.outvotedWord,
                               queued := anyStored (s.insertEach block (f.outvoted.union f.errors)).2 f.outvoted }
            (State.forEach (fun r u =>
              if f.outvoted.get r = true then u.charge r .miscompare
              else if f.errors.get r = true then u.charge r .readError
              else u) (s.insertEach block (f.outvoted.union f.errors)).1))) := by
  rw [← State.charges_findings]
  rfl

/-! ## The voter list (R62, R72, R73) -/

theorem voterAnswers_get (voters : Tri (Option VoterEntry)) (r : Replica) (x : OpAnswer) :
    (voterAnswers voters).get r = some x ↔ voters.get r = some ⟨.voter, x⟩ := by
  rw [voterAnswers, Tri.get_ofFn]
  split <;> simp_all

/-- The search finds a replica that alone is looked for. -/
theorem Replica.find?_of_only {p : Replica → Bool} {r : Replica} (h : ∀ q, p q = true ↔ q = r) : Replica.all.find? p = some r := by
  cases r <;> simp [Replica.all, h]

theorem Replica.find?_of_nobody {p : Replica → Bool} (h : ∀ q, p q = false) : Replica.all.find? p = none := by
  simp [h]

theorem targetEntry_of_get {voters : Tri (Option VoterEntry)} {r : Replica} {x : OpAnswer}
    (h : voters.get r = some ⟨.target, x⟩) (hone : ∀ q x', voters.get q = some ⟨.target, x'⟩ → q = r) :
    targetEntry voters = some (r, x) := by
  unfold targetEntry
  rw [Replica.find?_of_only (r := r) fun q => ?_, Option.bind_some, h, Option.map_some]
  split
  · rename_i x' hx'; simpa using hone q x' hx'
  · rename_i x' hx'; simpa using fun hq : q = r => by rw [hq, h] at hx'; simp at hx'
  · rename_i hx'; simpa using fun hq : q = r => by rw [hq, h] at hx'; simp at hx'

theorem targetEntry_of_none {voters : Tri (Option VoterEntry)} (h : ∀ r x, voters.get r ≠ some ⟨.target, x⟩) :
    targetEntry voters = none := by
  unfold targetEntry
  rw [Replica.find?_of_nobody fun q => ?_, Option.bind_none]
  split
  · rename_i x hx; exact absurd hx (h q x)
  · rfl
  · rfl

/-- At most one entry of the list is a TARGET (R62). -/
def oneTarget (voters : Tri (Option VoterEntry)) : Prop :=
  ∀ q q' x x', voters.get q = some ⟨.target, x⟩ → voters.get q' = some ⟨.target, x'⟩ → q = q'

section OneTarget

variable {voters : Tri (Option VoterEntry)} (hone : oneTarget voters)
include hone

theorem targetMissed_get (r : Replica) :
    (targetMissed voters).get r = true ↔ voters.get r = some ⟨.target, .error⟩ ∨ voters.get r = some ⟨.target, .lost⟩ := by
  by_cases hany : ∃ q x, voters.get q = some ⟨.target, x⟩
  · obtain ⟨q, x, hq⟩ := hany
    have hentry := targetEntry_of_get hq fun q' x' h' => hone q' q x' x h' hq
    have hself : ∀ y, voters.get r = some ⟨.target, y⟩ ↔ r = q ∧ y = x := fun y =>
      ⟨fun h => by obtain rfl := hone r q y x h hq; rw [h] at hq; simpa using hq, fun ⟨h, h'⟩ => by rw [h, h', hq]⟩
    rw [targetMissed, hentry, hself, hself]
    cases x <;> simp [Tri.get_only]
  · have hnone : ∀ q x, voters.get q ≠ some ⟨.target, x⟩ := fun q x h => hany ⟨q, x, h⟩
    rw [targetMissed, targetEntry_of_none hnone]
    simp [hnone]

theorem State.reportTarget_of_get {sl : Slot} (hvoters : sl.voters = voters) {r : Replica} {x : OpAnswer}
    (h : voters.get r = some ⟨.target, x⟩) (s : State) :
    (x = .error ∨ x = .lost → s.reportTarget sl = s.targetFailure r) ∧ (x ≠ .error → x ≠ .lost → s.reportTarget sl = s) := by
  have hentry := targetEntry_of_get h fun q x' h' => hone q r x' x h' h
  rw [State.reportTarget, hvoters, hentry]
  cases x <;> simp

end OneTarget

theorem allErrors_get (voters : Tri (Option VoterEntry)) (r : Replica) :
    (allErrors voters).get r = true ↔ ∃ role, voters.get r = some ⟨role, .error⟩ := by
  rw [allErrors, Tri.get_ofFn]
  split <;> simp_all

/-- The voting replicas that missed a write (R79, R73). -/
def State.missedBy (sl : Slot) (s : State) : ReplicaSet :=
  ((answeredBad (voterAnswers sl.voters)).union (targetMissed sl.voters)).inter s.voting

theorem State.missedBy_get {sl : Slot} (hone : oneTarget sl.voters) (s : State) (r : Replica) :
    (s.missedBy sl).get r = true ↔ (s.account r).votes = true
      ∧ ∃ role, sl.voters.get r = some ⟨role, .error⟩ ∨ sl.voters.get r = some ⟨role, .lost⟩ := by
  have hroles (p : Role → Prop) : (∃ role, p role) ↔ p .voter ∨ p .target :=
    ⟨fun ⟨role, h⟩ => by cases role <;> tauto, fun h => h.elim (fun h => ⟨_, h⟩) fun h => ⟨_, h⟩⟩
  rw [State.missedBy, Tri.get_inter, Tri.get_union, State.voting_get, Bool.and_eq_true, Bool.or_eq_true, answeredBad_iff,
    targetMissed_get hone, AnsweredBadly, voterAnswers_get, voterAnswers_get, hroles]
  tauto

theorem State.reportMissed_eq (sl : Slot) (s : State) :
    s.reportMissed sl = State.recordEvent
      { kind := .writeMissed, origin := .upstreamWrite, block := sl.block, mask := s.missedBy sl, word := none,
        queued := anyStored (s.insertEach sl.block (s.missedBy sl)).2 (s.missedBy sl) }
      (State.forEach (fun r u => if ((s.missedBy sl).inter (allErrors sl.voters)).get r = true then u.charge r .writeMissed else u)
        (s.insertEach sl.block (s.missedBy sl)).1) := by
  rw [← State.charges_named]
  rfl

theorem State.reportUnwritten_eq (sl : Slot) (s : State) :
    s.reportUnwritten sl = State.raise .dataLoss (State.recordEvent
      { kind := .writeMissed, origin := .upstreamWrite, block := sl.block,
        mask := (namedIn (voterAnswers sl.voters)).inter s.voting, word := none, queued := false }
      (State.forEach (fun r u =>
        if ((answered (voterAnswers sl.voters) .error).inter s.voting).get r = true then u.charge r .writeMissed else u) s)) := by
  rw [← State.charges_named]
  rfl

/-! ## Removals (R81, R110) -/

theorem Slot.fullBlock_iff (sl : Slot) : sl.fullBlock = true ↔ sl.length = 8 ∧ ∀ e ∈ sl.enables, e = 0xFF#8 := by
  simp [Slot.fullBlock, Enables.all]

theorem Tri.isEmpty_iff_fields (m : Tri Bool) : m.isEmpty = true ↔ m.a = false ∧ m.b = false ∧ m.c = false := by
  simp [Tri.isEmpty, and_assoc]

theorem dropReplica_eq_filterMap (q : List QueueEntry) (r : Replica) (chosen : QueueEntry → Bool) :
    dropReplica q r chosen = q.filterMap fun e =>
      let mask := if chosen e = true then e.mask.set r false else e.mask
      if mask.a = false ∧ mask.b = false ∧ mask.c = false then none else some { e with mask := mask } := by
  have hleave (e : QueueEntry) : e.leave r chosen = { e with mask := if chosen e = true then e.mask.set r false else e.mask } := by
    unfold QueueEntry.leave
    split <;> rfl
  rw [dropReplica_eq]
  induction q with
  | nil => rfl
  | cons e q ih =>
    rw [List.map_cons, List.filter_cons, ih, List.filterMap_cons, hleave]
    simp only [← Tri.isEmpty_iff_fields]
    cases (if chosen e = true then e.mask.set r false else e.mask).isEmpty <;> rfl

theorem State.removeRepair_queue (block : Nat) (r : Replica) (s : State) :
    (s.removeRepair block r).queue = s.queue.filterMap fun e =>
      let mask := if e.block = block then e.mask.set r false else e.mask
      if mask.a = false ∧ mask.b = false ∧ mask.c = false then none else some { e with mask := mask } := by
  rw [State.removeRepair, State.setQueue_queue, dropReplica_eq_filterMap]
  simp only [beq_iff_eq]

/-- Settles O40: the reports of reads and writes, the removals, the target failure, and the empty event. -/
theorem decisionReportsReachTheirOwners : Obligations.DecisionReportsReachTheirOwners := by
  unfold Obligations.DecisionReportsReachTheirOwners
  intro insertAll queued chargeMissed record
  have hqueued (stored m : ReplicaSet) : anyStored stored m = queued stored m := anyStored_eq stored m
  refine ⟨fun s origin block f => ?read, fun s sl hone => ⟨?missed, ?unwritten, fun r x h => State.reportTarget_of_get hone rfl h s,
    fun h => ?target⟩, fun s sl => ⟨fun hfull => ?removals, fun hpart => if_neg ?notFull⟩,
    fun s block r => ⟨State.removeRepair_queue block r s, State.setQueue_queueFull _ s, State.setQueue_moved _ s,
      State.setQueue_keeps _ s⟩, fun s r => ⟨fun h => if_pos h, fun h => if_neg h⟩, fun s e he => if_pos he⟩
  case read =>
    intro stored charged
    rw [State.reportRead_eq, hqueued, hqueued]
    rfl
  case missed =>
    refine ⟨s.missedBy sl, (s.missedBy sl).inter (allErrors sl.voters), State.missedBy_get hone s, fun r => ?_, ?_⟩
    · rw [Tri.get_inter, Bool.and_eq_true, State.missedBy_get hone, allErrors_get]
      exact ⟨fun h => ⟨h.1.1, h.2⟩, fun h => ⟨⟨h.1, h.2.imp fun _ => .inl⟩, h.2⟩⟩
    · rw [State.reportMissed_eq, hqueued]
      rfl
  case unwritten =>
    refine ⟨(namedIn (voterAnswers sl.voters)).inter s.voting, (answered (voterAnswers sl.voters) .error).inter s.voting,
      fun r => ?_, fun r => ?_, State.reportUnwritten_eq sl s⟩
    · simp only [Tri.get_inter, State.voting_get, namedIn, Tri.get_ofFn, Bool.and_eq_true, Option.isSome_iff_exists,
        voterAnswers_get, and_comm]
    · rw [answered_error_inter_voting_get, voterAnswers_get]
  case target => rw [State.reportTarget, targetEntry_of_none h]
  case removals =>
    refine ⟨(answeredOk (voterAnswers sl.voters)).inter s.voting, fun r => ?_, if_pos ((Slot.fullBlock_iff sl).2 hfull)⟩
    rw [Tri.get_inter, State.voting_get, Bool.and_eq_true, answeredOk_get, and_comm]
    simp only [voterAnswers_get]
  case notFull =>
    rw [Slot.fullBlock_iff]
    rintro ⟨hlength, henables⟩
    rcases hpart with h | ⟨e, he, hne⟩
    · exact h hlength
    · exact hne (henables e he)

end Sys2Proof.Machine
end

section
/-! The decision of a slot: its status, its words and its failed-word mask (R61 to R74). -/

namespace Sys2Proof.Machine

open Sys2Proof

/-! ## The status of a write (R72) -/

theorem Tri.count_eq_zero_iff (m : ReplicaSet) : m.count = 0 ↔ ∀ r, m.get r = false := by
  rw [← Tri.isEmpty_iff]
  obtain ⟨a, b, c⟩ := m
  cases a <;> cases b <;> cases c <;> decide

theorem Tri.count_of_only {m : ReplicaSet} {r : Replica} (h : ∀ q, m.get q = true ↔ q = r) : m.count = 1 := by
  rw [show m = Tri.only r from Tri.ext_get fun q => by rw [Bool.eq_iff_iff, h, Tri.get_only, decide_eq_true_eq]]
  cases r <;> rfl

theorem Tri.two_le_count {m : ReplicaSet} {q r : Replica} (hqr : q ≠ r) (hq : m.get q = true) (hr : m.get r = true) : 2 ≤ m.count := by
  obtain ⟨a, b, c⟩ := m
  cases q <;> cases r <;> simp_all [Tri.get, Tri.count]

/-- A set within another that lacks one of its replicas has fewer. -/
theorem Tri.count_lt_count {m n : ReplicaSet} {r : Replica} (h : ∀ q, m.get q = true → n.get q = true) (hr : n.get r = true)
    (hm : m.get r = false) : m.count < n.count := by
  have hle : ∀ q, (m.get q).toNat ≤ (n.get q).toNat := fun q => by
    cases hq : m.get q with
    | false => exact Nat.zero_le _
    | true => rw [h q hq]
  have hlt : (m.get r).toNat < (n.get r).toNat := by rw [hm, hr]; decide
  have ha := hle .a
  have hb := hle .b
  have hc := hle .c
  change m.a.toNat + m.b.toNat + m.c.toNat < n.a.toNat + n.b.toNat + n.c.toNat
  cases r <;> simp only [Tri.get] at ha hb hc hlt <;> omega

section WriteStatus

variable {answers : Tri (Option OpAnswer)}

theorem namedIn_get (r : Replica) : (namedIn answers).get r = true ↔ ∃ x, answers.get r = some x := by
  rw [namedIn, Tri.get_ofFn, Option.isSome_iff_exists]

theorem answeredOk_le_namedIn (r : Replica) (h : (answeredOk answers).get r = true) : (namedIn answers).get r = true := by
  obtain ⟨w, hw⟩ := (answeredOk_get answers r).1 h
  exact (namedIn_get r).2 ⟨_, hw⟩

theorem writeStatus_of_none (h : ∀ r, ¬∃ w, answers.get r = some (.ok w)) : writeStatus answers = .failed := by
  have hzero : (answeredOk answers).count = 0 :=
    (Tri.count_eq_zero_iff _).2 fun r => Bool.eq_false_iff.2 fun hr => h r ((answeredOk_get answers r).1 hr)
  simp [writeStatus, hzero]

theorem answeredOk_count_ne_zero {q : Replica} {w : List Word} (hq : answers.get q = some (.ok w)) : (answeredOk answers).count ≠ 0 :=
  fun hzero => by
    have := (Tri.count_eq_zero_iff _).1 hzero q
    rw [(answeredOk_get answers q).2 ⟨w, hq⟩] at this
    cases this

theorem writeStatus_of_only {q : Replica} {w : List Word} (hq : answers.get q = some (.ok w))
    (honly : ∀ r, r ≠ q → answers.get r = none) : writeStatus answers = .single := by
  have hone : (namedIn answers).count = 1 := Tri.count_of_only (r := q) fun r => by
    rw [namedIn_get]
    refine ⟨fun ⟨x, hx⟩ => ?_, fun h => ⟨_, h ▸ hq⟩⟩
    by_contra hne
    rw [honly r hne] at hx
    cases hx
  simp [writeStatus, answeredOk_count_ne_zero hq, hone]

theorem writeStatus_of_all {q r : Replica} (hqr : q ≠ r) {w w' : List Word} (hq : answers.get q = some (.ok w))
    (hr : answers.get r = some (.ok w')) (hall : ∀ p x, answers.get p = some x → ∃ w, x = .ok w) : writeStatus answers = .clean := by
  have hsame : answeredOk answers = namedIn answers := Tri.ext_get fun p => by
    rw [Bool.eq_iff_iff, answeredOk_get, namedIn_get]
    refine ⟨fun ⟨w, hw⟩ => ⟨_, hw⟩, fun ⟨x, hx⟩ => ?_⟩
    obtain ⟨w, rfl⟩ := hall p x hx
    exact ⟨w, hx⟩
  have htwo : 2 ≤ (namedIn answers).count := Tri.two_le_count hqr ((namedIn_get q).2 ⟨_, hq⟩) ((namedIn_get r).2 ⟨_, hr⟩)
  rw [writeStatus, hsame]
  simp only [if_neg (show ¬(namedIn answers).count = 0 by omega), if_neg (show ¬(namedIn answers).count = 1 by omega), if_true]

theorem writeStatus_of_some {q r : Replica} {w : List Word} {x : OpAnswer} (hq : answers.get q = some (.ok w))
    (hr : answers.get r = some x) (hx : ¬∃ w, x = .ok w) : writeStatus answers = .partialWrite := by
  have hnot : (answeredOk answers).get r = false := Bool.eq_false_iff.2 fun h => by
    obtain ⟨w', hw'⟩ := (answeredOk_get answers r).1 h
    exact hx ⟨w', Option.some.inj (hr.symm.trans hw')⟩
  have hlt := Tri.count_lt_count answeredOk_le_namedIn ((namedIn_get r).2 ⟨x, hr⟩) hnot
  have hpos := answeredOk_count_ne_zero hq
  rw [writeStatus]
  simp only [if_neg hpos, if_neg (show ¬(namedIn answers).count = 1 by omega),
    if_neg (show ¬(answeredOk answers).count = (namedIn answers).count by omega)]

end WriteStatus

/-! ## The status of a read (R64, R70) -/

theorem Status.rank_inj {x y : Status} (h : x.rank = y.rank) : x = y := by
  cases x <;> cases y <;> first | rfl | exact absurd h (by decide)

theorem Status.worse_eq (x y : Status) : (x.worse y = x ∨ x.worse y = y) ∧ x.rank ≤ (x.worse y).rank ∧ y.rank ≤ (x.worse y).rank := by
  unfold Status.worse
  split
  · rename_i h; exact ⟨.inr rfl, Nat.le_of_lt h, Nat.le_refl _⟩
  · rename_i h; exact ⟨.inl rfl, Nat.le_refl _, Nat.le_of_not_lt h⟩

/-- The worst of a list of statuses is one of them, and none of them is worse. -/
theorem Status.foldl_worse (l : List Status) (x : Status) :
    (l.foldl Status.worse x ∈ x :: l) ∧ ∀ y ∈ x :: l, y.rank ≤ (l.foldl Status.worse x).rank := by
  induction l generalizing x with
  | nil => simp
  | cons z l ih =>
    obtain ⟨hmem, hle⟩ := ih (x.worse z)
    obtain ⟨heq, hx, hz⟩ := x.worse_eq z
    rw [List.foldl_cons]
    refine ⟨?_, fun y hy => ?_⟩
    · rcases List.mem_cons.1 hmem with h | h
      · rw [h]; rcases heq with h' | h' <;> simp [h']
      · exact List.mem_cons_of_mem _ (List.mem_cons_of_mem _ h)
    · have hhead := hle _ List.mem_cons_self
      rcases List.mem_cons.1 hy with rfl | hy
      · exact hx.trans hhead
      · rcases List.mem_cons.1 hy with rfl | hy
        · exact hz.trans hhead
        · exact hle y (List.mem_cons_of_mem _ hy)

/-- The worst status is the one that occurs and that none which occurs exceeds. -/
theorem Status.foldl_worse_eq {l : List Status} {x y : Status} (hy : y ∈ x :: l) (hmax : ∀ z ∈ x :: l, z.rank ≤ y.rank) :
    l.foldl Status.worse x = y := by
  obtain ⟨hmem, hle⟩ := Status.foldl_worse l x
  exact Status.rank_inj (Nat.le_antisymm (hmax _ hmem) (hle y hy))

theorem reportedStatus_eq (phase : FastPhase) (o : WordOutcome) :
    reportedStatus phase o = if phase = .fallback ∧ o.status = .clean then .corrected else o.status := by
  cases phase <;> cases o <;> rfl

theorem WordOutcome.status_cases (o : WordOutcome) :
    o.status = .clean ∨ o.status = .single ∨ o.status = .corrected ∨ o.status = .failed := by
  cases o <;> simp [WordOutcome.status]

section ReadStatus

variable {n : Nat} {word : Nat → WordOutcome} {phase : FastPhase}

/-- A word is reported CORRECTED (R70). -/
def WordOutcome.corrects (phase : FastPhase) (o : WordOutcome) : Prop :=
  o.status = .corrected ∨ (phase = .fallback ∧ o.status = .clean)

theorem reportedStatus_failed {o : WordOutcome} (h : o.status = .failed) : reportedStatus phase o = .failed := by
  rw [reportedStatus_eq, h]; simp

theorem reportedStatus_corrected {o : WordOutcome} (h : o.corrects phase) : reportedStatus phase o = .corrected := by
  rw [reportedStatus_eq]
  rcases h with h | h
  · simp [h]
  · rw [if_pos h]

theorem reportedStatus_single {o : WordOutcome} (h : o.status = .single) : reportedStatus phase o = .single := by
  rw [reportedStatus_eq, h]; simp

theorem reportedStatus_cases (phase : FastPhase) (o : WordOutcome) :
    (o.status = .failed ∧ reportedStatus phase o = .failed) ∨ (o.corrects phase ∧ reportedStatus phase o = .corrected)
      ∨ (o.status = .single ∧ reportedStatus phase o = .single) ∨ reportedStatus phase o = .clean := by
  by_cases hc : o.corrects phase
  · exact .inr (.inl ⟨hc, reportedStatus_corrected hc⟩)
  · rcases o.status_cases with h | h | h | h
    · refine .inr (.inr (.inr ?_))
      rw [reportedStatus_eq, if_neg fun hn => hc (.inr hn), h]
    · exact .inr (.inr (.inl ⟨h, reportedStatus_single h⟩))
    · exact absurd (.inl h) hc
    · exact .inl ⟨h, reportedStatus_failed h⟩

theorem reportedStatus_rank_le_three (o : WordOutcome) : (reportedStatus phase o).rank ≤ 3 := by
  rcases reportedStatus_cases phase o with ⟨-, h⟩ | ⟨-, h⟩ | ⟨-, h⟩ | h <;> rw [h] <;> decide

theorem reportedStatus_rank_le_two {o : WordOutcome} (hf : o.status ≠ .failed) : (reportedStatus phase o).rank ≤ 2 := by
  rcases reportedStatus_cases phase o with ⟨h, -⟩ | ⟨-, h⟩ | ⟨-, h⟩ | h
  · exact absurd h hf
  all_goals rw [h]; decide

theorem reportedStatus_rank_le_one {o : WordOutcome} (hf : o.status ≠ .failed) (hc : ¬o.corrects phase) :
    (reportedStatus phase o).rank ≤ 1 := by
  rcases reportedStatus_cases phase o with ⟨h, -⟩ | ⟨h, -⟩ | ⟨-, h⟩ | h
  · exact absurd h hf
  · exact absurd h hc
  all_goals rw [h]; decide

theorem reportedStatus_rank_le_zero {o : WordOutcome} (hf : o.status ≠ .failed) (hc : ¬o.corrects phase)
    (hs : o.status ≠ .single) : (reportedStatus phase o).rank ≤ 0 := by
  rcases reportedStatus_cases phase o with ⟨h, -⟩ | ⟨h, -⟩ | ⟨h, -⟩ | h
  · exact absurd h hf
  · exact absurd h hc
  · exact absurd h hs
  · rw [h]; decide

/-- The read's status is that of a word which none exceeds. -/
theorem readStatus_eq {y : Status} (hy : y = .clean ∨ ∃ k, k < n ∧ reportedStatus phase (word k) = y)
    (hmax : ∀ k, k < n → (reportedStatus phase (word k)).rank ≤ y.rank) : readStatus phase ((List.range n).map word) = y := by
  rw [readStatus, List.map_map]
  refine Status.foldl_worse_eq ?_ fun z hz => ?_
  · rcases hy with rfl | ⟨k, hk, rfl⟩
    · exact List.mem_cons_self
    · exact List.mem_cons_of_mem _ (List.mem_map.2 ⟨k, List.mem_range.2 hk, rfl⟩)
  · rcases List.mem_cons.1 hz with rfl | hz
    · exact Nat.zero_le _
    · obtain ⟨k, hk, rfl⟩ := List.mem_map.1 hz
      exact hmax k (List.mem_range.1 hk)

theorem readStatus_of_failed (h : ∃ k, k < n ∧ (word k).status = .failed) :
    readStatus phase ((List.range n).map word) = .failed := by
  obtain ⟨k, hk, hs⟩ := h
  exact readStatus_eq (.inr ⟨k, hk, reportedStatus_failed hs⟩) fun j _ => reportedStatus_rank_le_three _

variable (hf : ¬∃ k, k < n ∧ (word k).status = .failed)
include hf

theorem readStatus_of_corrected (h : ∃ k, k < n ∧ (word k).corrects phase) :
    readStatus phase ((List.range n).map word) = .corrected := by
  obtain ⟨k, hk, hs⟩ := h
  exact readStatus_eq (.inr ⟨k, hk, reportedStatus_corrected hs⟩) fun j hj => reportedStatus_rank_le_two fun h => hf ⟨j, hj, h⟩

variable (hc : ¬∃ k, k < n ∧ (word k).corrects phase)
include hc

theorem readStatus_of_single (h : ∃ k, k < n ∧ (word k).status = .single) :
    readStatus phase ((List.range n).map word) = .single := by
  obtain ⟨k, hk, hs⟩ := h
  exact readStatus_eq (.inr ⟨k, hk, reportedStatus_single hs⟩) fun j hj =>
    reportedStatus_rank_le_one (fun h => hf ⟨j, hj, h⟩) fun h => hc ⟨j, hj, h⟩

theorem readStatus_of_clean (h : ¬∃ k, k < n ∧ (word k).status = .single) :
    readStatus phase ((List.range n).map word) = .clean :=
  readStatus_eq (.inl rfl) fun j hj =>
    reportedStatus_rank_le_zero (fun h => hf ⟨j, hj, h⟩) (fun h => hc ⟨j, hj, h⟩) fun h' => h ⟨j, hj, h'⟩

end ReadStatus

/-! ## The failed-word mask (R64) -/

/-- The mask of a list of outcomes before it is cut to eight bits. -/
def failedSum (outcomes : List WordOutcome) : Nat :=
  (outcomes.zipIdx.map fun p => if p.1.status = .failed then 2 ^ p.2 else 0).foldl (· + ·) 0

theorem failedMask_eq (outcomes : List WordOutcome) : failedMask outcomes = BitVec.ofNat 8 (failedSum outcomes) := rfl

theorem failedSum_append (l : List WordOutcome) (o : WordOutcome) :
    failedSum (l ++ [o]) = (if o.status = .failed then 2 ^ l.length else 0) + failedSum l := by
  rw [failedSum, List.zipIdx_append, List.map_append, List.foldl_append, Nat.zero_add, List.zipIdx_singleton,
    List.map_singleton, List.foldl_cons, List.foldl_nil, Nat.add_comm]
  rfl

theorem failedSum_lt (l : List WordOutcome) : failedSum l < 2 ^ l.length := by
  induction l using List.reverseRecOn with
  | nil => decide
  | append_singleton l o ih =>
    rw [failedSum_append, List.length_append, List.length_singleton, Nat.pow_succ]
    split <;> omega

/-- Bit k of the mask stands for the k-th word. -/
theorem failedSum_testBit (l : List WordOutcome) (k : Nat) :
    (failedSum l).testBit k = true ↔ ∃ h : k < l.length, l[k].status = .failed := by
  induction l using List.reverseRecOn with
  | nil => simp [failedSum]
  | append_singleton l o ih =>
    have hlt := failedSum_lt l
    rw [failedSum_append]
    rcases Nat.lt_trichotomy k l.length with hk | rfl | hk
    · have hbit : ((if o.status = .failed then 2 ^ l.length else 0) + failedSum l).testBit k = (failedSum l).testBit k := by
        split
        · exact Nat.testBit_two_pow_add_gt hk _
        · rw [Nat.zero_add]
      rw [hbit, ih]
      simp [hk, List.getElem_append_left, Nat.lt_succ_of_lt hk]
    · have hzero := Nat.testBit_lt_two_pow hlt
      split
      · rename_i ho; simp [Nat.testBit_two_pow_add_eq, hzero, ho]
      · rename_i ho; simp [hzero, ho]
    · have hbit : ((if o.status = .failed then 2 ^ l.length else 0) + failedSum l).testBit k = false := by
        refine Nat.testBit_lt_two_pow (Nat.lt_of_lt_of_le ?_ (Nat.pow_le_pow_right (by decide) hk))
        rw [Nat.succ_eq_add_one, Nat.pow_succ]
        split <;> omega
      rw [hbit]
      simp only [Bool.false_eq_true, List.length_append, List.length_singleton, false_iff, not_exists]
      intro hn
      omega

theorem failedMask_outcomes {n : Nat} (word : Nat → WordOutcome) {k : Nat} (hk : k < 8) :
    (failedMask ((List.range n).map word)).getLsbD k = true ↔ k < n ∧ (word k).status = .failed := by
  rw [failedMask_eq, BitVec.getLsbD_ofNat, decide_eq_true hk, Bool.true_and, failedSum_testBit]
  simp

/-! ## The decision of a slot (R61, R67, R69) -/

/-- The findings of a memory read (R75 to R78). -/
def State.readFindings (sl : Slot) (s : State) : ReadFindings :=
  findings sl.firstWord (voteWords (s.contributing (voterAnswers sl.voters)) sl.length)
    (contributors (s.contributing (voterAnswers sl.voters)))
    (((answered (voterAnswers sl.voters) .error).union sl.firstError).inter s.voting)

/-- The slot with the answer of its read (R64). -/
def State.readSlot (sl : Slot) (s : State) : Slot :=
  { sl with
    status := some (readStatus sl.fastPhase (voteWords (s.contributing (voterAnswers sl.voters)) sl.length))
    failedMask := failedMask (voteWords (s.contributing (voterAnswers sl.voters)) sl.length)
    words := (voteWords (s.contributing (voterAnswers sl.voters)) sl.length).map WordOutcome.value }

theorem State.decideRead_eq (i : SlotId) (sl : Slot) (s : State) :
    s.decideRead i sl =
      (if (s.readSlot sl).status = some .failed then
        State.raise .dataLoss
          (State.reportRead .upstreamRead sl.block (s.readFindings sl) ((s.answerSlot i (s.readSlot sl)).freeBlock sl.block))
      else State.reportRead .upstreamRead sl.block (s.readFindings sl) ((s.answerSlot i (s.readSlot sl)).freeBlock sl.block)) := by
  simp only [State.readSlot, Option.some.injEq]
  rfl

/-- The slot with the answer of its write (R72). -/
def Slot.writeSlot (sl : Slot) : Slot := { sl with status := some (writeStatus (voterAnswers sl.voters)) }

theorem State.decideWrite_eq (i : SlotId) (sl : Slot) (s : State) :
    s.decideWrite i sl =
      (if sl.writeSlot.status = some .failed then
        State.reportTarget sl
          (State.reportUnwritten sl (State.reportRemovals sl ((s.answerSlot i sl.writeSlot).freeBlock sl.block)))
      else
        State.reportTarget sl
          (State.reportMissed sl (State.reportRemovals sl ((s.answerSlot i sl.writeSlot).freeBlock sl.block)))) := by
  simp only [Slot.writeSlot, Option.some.injEq]
  unfold State.decideWrite
  simp only
  split <;> rfl

theorem Slot.firstPhase_of_ne {sl : Slot} (h : sl.fastPhase ≠ .first) : sl.firstPhase = none := by
  unfold Slot.firstPhase
  split
  · rename_i hf; exact absurd hf h
  · rfl
  · rfl

theorem Slot.firstPhase_of_nobody {sl : Slot} (h : ∀ r, sl.voters.get r = none) : sl.firstPhase = none := by
  unfold Slot.firstPhase
  split
  · rw [Replica.find?_of_nobody fun r => by rw [h]; rfl, Option.bind_none]
  · rfl
  · rfl

theorem Slot.firstPhase_of_only {sl : Slot} (hfirst : sl.fastPhase = .first) {r : Replica} {e : VoterEntry}
    (hr : sl.voters.get r = some e) (h : ∀ q, q ≠ r → sl.voters.get q = none) : sl.firstPhase = some (r, e.answer) := by
  have honly (q : Replica) : (sl.voters.get q).isSome = true ↔ q = r := by
    refine ⟨fun hq => ?_, fun hq => by rw [hq, hr]; rfl⟩
    by_contra hne
    rw [h q hne] at hq
    cases hq
  rw [Slot.firstPhase, hfirst]
  simp only [Replica.find?_of_only honly, Option.bind_some, hr, Option.map_some]

section DecideSlot

variable {s : State} {i : SlotId} {sl : Slot} (hsl : s.slot i = some sl)
include hsl

theorem State.decideSlot_of_write (hkind : sl.kind = .write) : s.decideSlot i = s.decideWrite i sl := by
  unfold State.decideSlot
  rw [hsl]
  simp only [hkind]

theorem State.decideSlot_of_no_first (hkind : sl.kind = .read) (h : sl.firstPhase = none) : s.decideSlot i = s.decideRead i sl := by
  unfold State.decideSlot
  rw [hsl]
  simp only [hkind, h]

theorem State.decideSlot_of_first_ok (hkind : sl.kind = .read) {r : Replica} {words : List Word}
    (h : sl.firstPhase = some (r, .ok words)) (hvotes : (s.account r).votes = true) : s.decideSlot i = s.decideRead i sl := by
  unfold State.decideSlot
  rw [hsl]
  simp only [hkind, h, hvotes, if_true]

theorem State.decideSlot_of_first_bad (hkind : sl.kind = .read) {r : Replica} {x : OpAnswer} (h : sl.firstPhase = some (r, x))
    (hbad : (s.account r).votes = false ∨ ∀ words, x ≠ .ok words) :
    s.decideSlot i = s.setSlot i (some (sl.fallBack (r, x))) := by
  unfold State.decideSlot
  rw [hsl]
  simp only [hkind, h]
  cases x with
  | ok words =>
    simp only [hbad.resolve_right fun hn => hn words rfl, Bool.false_eq_true, if_false]
  | _ => rfl

end DecideSlot

theorem State.readFindings_errors (sl : Slot) (s : State) (r : Replica) :
    (s.readFindings sl).errors.get r = true ↔ (s.account r).votes = true
      ∧ (sl.voters.get r = some ⟨.voter, .error⟩ ∨ sl.firstAnswer = some (r, .error)) := by
  have hfirst : sl.firstError.get r = true ↔ sl.firstAnswer = some (r, .error) := by
    unfold Slot.firstError
    split <;> simp_all [Tri.get_only, eq_comm]
  have hanswered : (answered (voterAnswers sl.voters) .error).get r = true ↔ sl.voters.get r = some ⟨.voter, .error⟩ := by
    rw [← voterAnswers_get]
    simp [answered]
  simp only [State.readFindings, findings, Tri.get_inter, Tri.get_union, State.voting_get, Bool.and_eq_true, Bool.or_eq_true,
    hfirst, hanswered, and_comm]

/-- Settles O39: a write's status by its voters, a read's by its words, and the fall back. -/
theorem slotDecisionGivesStatus : Obligations.SlotDecisionGivesStatus := by
  unfold Obligations.SlotDecisionGivesStatus
  refine fun s i sl hsl => ⟨fun hkind => ⟨sl.writeSlot, ?writeEq, rfl, ?writeStatus⟩, fun hkind hdecided =>
    ⟨s.readSlot sl, s.readFindings sl, ?readEq, rfl, ?words⟩, fun r role x hkind hfirst hr honly hbad => ?fallBack⟩
  case writeEq => rw [State.decideSlot_of_write hsl hkind, State.decideWrite_eq]
  case writeStatus =>
    intro answer ok
    have hget := voterAnswers_get sl.voters
    refine ⟨fun hnone => ?_, fun q hq honly => ?_, fun q r hqr hq hr hall => ?_, fun q r hq hr => ?_⟩
    · exact congrArg some (writeStatus_of_none fun r ⟨w, hw⟩ => hnone r ⟨_, (hget r _).1 hw, w, rfl⟩)
    · obtain ⟨_, hq, w, rfl⟩ := hq
      refine congrArg some (writeStatus_of_only ((hget q _).2 hq) fun r hr => ?_)
      exact Option.eq_none_iff_forall_ne_some.2 fun x hx => honly r hr ⟨x, (hget r x).1 hx, trivial⟩
    · obtain ⟨_, hq, w, rfl⟩ := hq
      obtain ⟨_, hr, w', rfl⟩ := hr
      exact congrArg some (writeStatus_of_all hqr ((hget q _).2 hq) ((hget r _).2 hr) fun p x hx => hall p x ((hget p x).1 hx))
    · obtain ⟨_, hq, w, rfl⟩ := hq
      obtain ⟨x, hr, hx⟩ := hr
      exact congrArg some (writeStatus_of_some ((hget q _).2 hq) ((hget r x).2 hr) hx)
  case readEq =>
    rw [← State.decideRead_eq]
    rcases hdecided with h | h | ⟨r, role, words, hr, hvotes, honly⟩
    · exact State.decideSlot_of_no_first hsl hkind (Slot.firstPhase_of_ne h)
    · exact State.decideSlot_of_no_first hsl hkind (Slot.firstPhase_of_nobody h)
    · by_cases hfirst : sl.fastPhase = .first
      · exact State.decideSlot_of_first_ok hsl hkind (Slot.firstPhase_of_only hfirst hr honly) hvotes
      · exact State.decideSlot_of_no_first hsl hkind (Slot.firstPhase_of_ne hfirst)
  case words =>
    intro value word has failed corrected single
    have hvalue (r : Replica) (k : Nat) : value r k = s.valueOf (voterAnswers sl.voters) k r := by
      have hnone (h : ∀ words, sl.voters.get r ≠ some ⟨.voter, .ok words⟩) : s.valueOf (voterAnswers sl.voters) k r = none := by
        unfold State.valueOf
        split
        · rename_i words hw; exact absurd ((voterAnswers_get _ _ _).1 hw) (h words)
        · rfl
      simp only [value]
      split
      · rename_i words hw
        rw [State.valueOf, (voterAnswers_get _ _ _).2 hw]
      · rename_i h; exact (hnone h).symm
    have hword : word = s.wordVote (voterAnswers sl.voters) := funext fun k => by
      simp only [word, hvalue]
      rfl
    have houtcomes : voteWords (s.contributing (voterAnswers sl.voters)) sl.length = (List.range sl.length).map word := by
      rw [hword, State.voteWords_contributing]
    simp only [State.readSlot, State.readFindings, houtcomes]
    refine ⟨by rw [List.map_map]; rfl, fun k hk => failedMask_outcomes word hk, fun h => congrArg some (readStatus_of_failed h),
      fun hf h => congrArg some (readStatus_of_corrected hf h), fun hf hc h => congrArg some (readStatus_of_single hf hc h),
      fun hf hc h => congrArg some (readStatus_of_clean hf hc h), findings_outvoted _ _ _, fun r => State.readFindings_errors sl s r,
      fun r => ?_, fun k hk hd hmin => findings_divergentWord _ _ _ ⟨hk, hd, hmin⟩,
      fun k v r hk hv hmin => findings_outvotedWord _ _ _ ⟨hk, ⟨v, r, hv⟩, fun j hj ⟨v', r', h⟩ => hmin j hj v' r' h⟩⟩
    rw [findings_divergentMask, State.contributors_iff, State.Contributes]
    simp only [voterAnswers_get]
    rfl
  case fallBack => exact State.decideSlot_of_first_bad hsl hkind (Slot.firstPhase_of_only hfirst hr honly) hbad

end Sys2Proof.Machine
end

section
/-! The words that reads show (R196, R204), the policy of a block (R51 to R53), and the invariants in the reset state. -/

namespace Sys2Proof.Machine

open Sys2Proof

/-! ## Words made of fields (R204) -/

/-- The fields stand in ascending order from a position on, and none reaches into the next. -/
def fieldsFrom : Nat → List (Nat × Nat × Nat) → Bool
  | _, [] => true
  | n, f :: fields => decide (n ≤ f.1) && fieldsFrom (f.1 + f.2.1) fields

/-- The number that a list of fields makes. -/
def fieldsSum (fields : List (Nat × Nat × Nat)) : Nat := fields.foldr (fun f rest => f.2.2 % 2 ^ f.2.1 * 2 ^ f.1 + rest) 0

theorem fieldsSum_cons (f : Nat × Nat × Nat) (fields : List (Nat × Nat × Nat)) :
    fieldsSum (f :: fields) = f.2.2 % 2 ^ f.2.1 * 2 ^ f.1 + fieldsSum fields := rfl

/-- Fields from a position on add up to a multiple of its power. -/
theorem exists_fieldsSum_eq {n : Nat} {fields : List (Nat × Nat × Nat)} (h : fieldsFrom n fields = true) :
    ∃ q, fieldsSum fields = 2 ^ n * q := by
  induction fields generalizing n with
  | nil => exact ⟨0, rfl⟩
  | cons f fields ih =>
    obtain ⟨hn, hrest⟩ : n ≤ f.1 ∧ fieldsFrom (f.1 + f.2.1) fields = true := by simpa [fieldsFrom] using h
    obtain ⟨q, hq⟩ := ih hrest
    obtain ⟨d, hd⟩ := Nat.exists_eq_add_of_le hn
    refine ⟨2 ^ d * (f.2.2 % 2 ^ f.2.1) + 2 ^ d * 2 ^ f.2.1 * q, ?_⟩
    rw [fieldsSum_cons, hq, hd, Nat.pow_add, Nat.pow_add]
    ring

/-- Each position of the sum shows the bit of the field it belongs to. -/
theorem fieldsSum_testBit {n : Nat} {fields : List (Nat × Nat × Nat)} (h : fieldsFrom n fields = true) (i : Nat) :
    (fieldsSum fields).testBit i =
      fields.any fun f => decide (f.1 ≤ i) && decide (i < f.1 + f.2.1) && f.2.2.testBit (i - f.1) := by
  induction fields generalizing n with
  | nil => simp [fieldsSum]
  | cons f fields ih =>
    obtain ⟨-, hrest⟩ : n ≤ f.1 ∧ fieldsFrom (f.1 + f.2.1) fields = true := by simpa [fieldsFrom] using h
    obtain ⟨q, hq⟩ := exists_fieldsSum_eq hrest
    have hlow : f.2.2 % 2 ^ f.2.1 < 2 ^ f.2.1 := Nat.mod_lt _ (Nat.two_pow_pos _)
    have hsum : fieldsSum (f :: fields) = 2 ^ f.1 * (2 ^ f.2.1 * q + f.2.2 % 2 ^ f.2.1) := by
      rw [fieldsSum_cons, hq, Nat.pow_add]
      ring
    have htail : (fieldsSum fields).testBit i = (decide (f.1 + f.2.1 ≤ i) && q.testBit (i - (f.1 + f.2.1))) := by
      rw [hq, Nat.testBit_two_pow_mul]
    rw [List.any_cons, ← ih hrest, htail, hsum, Nat.testBit_two_pow_mul, Nat.testBit_two_pow_mul_add q hlow, Nat.testBit_mod_two_pow]
    by_cases hi : f.1 ≤ i
    · by_cases hw : i - f.1 < f.2.1
      · have h1 : i < f.1 + f.2.1 := by omega
        have h2 : ¬f.1 + f.2.1 ≤ i := by omega
        simp [hi, hw, h1, h2]
      · have h1 : ¬i < f.1 + f.2.1 := by omega
        have h2 : f.1 + f.2.1 ≤ i := by omega
        have h3 : i - f.1 - f.2.1 = i - (f.1 + f.2.1) := by omega
        simp [hi, hw, h1, h2, h3]
    · have h2 : ¬f.1 + f.2.1 ≤ i := by omega
      simp [hi, h2]

/-- A word of ascending fields lays them out. -/
theorem lays_of_eq {w : Word} {fields : List (Nat × Nat × Nat)} (hw : w = Word.ofFields fields)
    (h : fieldsFrom 0 fields = true) : Lays w fields := fun i hi => by
  have hsum : Word.ofFields fields = BitVec.ofNat 64 (fieldsSum fields) := rfl
  rw [hw, hsum, BitVec.getLsbD_ofNat, decide_eq_true hi, Bool.true_and, fieldsSum_testBit h]

theorem maskCode_mod (m : ReplicaSet) : maskCode m % 8 = m.a.toNat + 2 * m.b.toNat + 4 * m.c.toNat := by
  obtain ⟨a, b, c⟩ := m
  cases a <;> cases b <;> cases c <;> rfl

theorem Bool.toNat_mod_two (b : Bool) : b.toNat % 2 = b.toNat := by cases b <;> rfl

/-- The three positions of a mask are one field of three. -/
theorem fieldsSum_mask (m : ReplicaSet) (n : Nat) (rest : List (Nat × Nat × Nat)) :
    fieldsSum ((n, 3, maskCode m) :: rest) =
      fieldsSum ((n, 1, m.a.toNat) :: (n + 1, 1, m.b.toNat) :: (n + 2, 1, m.c.toNat) :: rest) := by
  simp only [fieldsSum_cons]
  rw [show (2 : Nat) ^ 3 = 8 from rfl, show (2 : Nat) ^ 1 = 2 from rfl, maskCode_mod, Bool.toNat_mod_two, Bool.toNat_mod_two,
    Bool.toNat_mod_two, Nat.pow_succ', Nat.pow_add]
  ring

theorem fieldsSum_append_congr (l : List (Nat × Nat × Nat)) {a b : List (Nat × Nat × Nat)} (h : fieldsSum a = fieldsSum b) :
    fieldsSum (l ++ a) = fieldsSum (l ++ b) := by
  induction l with
  | nil => exact h
  | cons f l ih => rw [List.cons_append, List.cons_append, fieldsSum_cons, fieldsSum_cons, ih]

theorem Word.ofFields_congr {a b : List (Nat × Nat × Nat)} (h : fieldsSum a = fieldsSum b) : Word.ofFields a = Word.ofFields b :=
  congrArg (BitVec.ofNat 64) h

theorem FaultRecord.word64_eq (r : FaultRecord) :
    r.word64 = Word.ofFields
      [(0, 16, r.sequence), (16, 3, r.kind.code), (19, 3, r.origin.code), (22, 3, r.word.getD 0), (25, 1, r.word.isSome.toNat),
       (26, 1, r.mask.a.toNat), (27, 1, r.mask.b.toNat), (28, 1, r.mask.c.toNat), (29, 8, r.repeats),
       (37, 1, r.queued.toNat), (38, 24, r.block), (63, 1, 1)] :=
  Word.ofFields_congr (fieldsSum_append_congr
    [(0, 16, r.sequence), (16, 3, r.kind.code), (19, 3, r.origin.code), (22, 3, r.word.getD 0), (25, 1, r.word.isSome.toNat)]
    (fieldsSum_mask r.mask 26 [(29, 8, r.repeats), (37, 1, r.queued.toNat), (38, 24, r.block), (63, 1, 1)]))

theorem State.readWord_bounds (s : State) (n : RegionId) :
    s.readWord (24 + 2 * n.val) = s.regions.descriptors[n].boundsWord := by
  fin_cases n <;> rfl

theorem State.readWord_policy (s : State) (n : RegionId) :
    s.readWord (25 + 2 * n.val) = s.regions.descriptors[n].policyWord (s.regions.fillMark == some n) := by
  fin_cases n <;> rfl

theorem State.readWord_replica (s : State) (r : Replica) : s.readWord (2 + r.number) = s.replicaWord r := by
  cases r <;> rfl

theorem State.readWord_stage (s : State) (k : Fin 4) : s.readWord (16 + k.val) = s.session.stages[k] := by
  fin_cases k <;> rfl

/-- Settles O51: each word is made of ascending fields. -/
theorem readWordsShowTheirFields : Obligations.ReadWordsShowTheirFields := by
  unfold Obligations.ReadWordsShowTheirFields
  intro s
  refine ⟨lays_of_eq rfl rfl, lays_of_eq rfl rfl, fun r => lays_of_eq (s.readWord_replica r) rfl,
    ⟨fun h => lays_of_eq ?copyNone rfl, fun n h => lays_of_eq ?copyFill rfl, fun r h => lays_of_eq ?copyRebuild rfl⟩,
    ⟨fun h => lays_of_eq ?queueEmpty rfl, fun head rest h => lays_of_eq ?queueHead rfl⟩, lays_of_eq rfl rfl, fun h => ?noRecord,
    fun x rest h => lays_of_eq ?record rfl, lays_of_eq rfl rfl, ⟨lays_of_eq rfl rfl, lays_of_eq rfl rfl⟩, lays_of_eq rfl rfl,
    s.readWord_stage, lays_of_eq rfl rfl, lays_of_eq rfl rfl, lays_of_eq rfl rfl, fun h => lays_of_eq ?noPending rfl,
    fun b h => lays_of_eq ?pending rfl, fun n => ⟨lays_of_eq (s.readWord_bounds n) rfl, lays_of_eq (s.readWord_policy n) rfl⟩,
    ⟨_, ?timer, lays_of_eq rfl rfl⟩, rfl, rfl, rfl, rfl, rfl, fun _ _ => rfl, rfl, rfl, rfl, rfl, rfl, rfl, rfl, rfl, rfl⟩
  case copyNone =>
    change s.copyWord = _
    rw [State.copyWord]
    simp only [h]
    rfl
  case copyFill =>
    change s.copyWord = _
    rw [State.copyWord]
    simp only [h]
    rfl
  case copyRebuild =>
    change s.copyWord = _
    rw [State.copyWord]
    simp only [h]
    rfl
  case queueEmpty =>
    change s.queueWord = _
    rw [State.queueWord, h]
    rfl
  case queueHead =>
    change s.queueWord = _
    rw [State.queueWord, h]
    rfl
  case noRecord =>
    change s.recordHeadWord = _
    rw [State.recordHeadWord, h]
  case record =>
    change s.recordHeadWord = _
    rw [State.recordHeadWord, h]
    exact x.word64_eq
  case noPending =>
    change s.apertureWord = _
    rw [State.apertureWord, h]
    rfl
  case pending =>
    change s.apertureWord = _
    rw [State.apertureWord, h]
    rfl
  case timer =>
    split
    · exact .inr rfl
    · exact .inl rfl

/-! ## The policy of a block (R51 to R53) -/

theorem Descriptor.covers_iff (d : Descriptor) (block : Nat) :
    d.covers block = true ↔ d.enabled = true ∧ d.first ≤ block ∧ block ≤ d.last := by
  simp [Descriptor.covers, and_assoc]

theorem Regions.filling_iff (t : Regions) (block : Nat) :
    t.filling block = true ↔ ∃ n, t.fillMark = some n ∧ t.descriptors[n].covers block = true := by
  unfold Regions.filling
  split <;> simp_all

theorem Regions.mem_descriptors {t : Regions} {d : Descriptor} : d ∈ t.descriptors.toList ↔ ∃ n : RegionId, d = t.descriptors[n] := by
  refine ⟨fun hd => ?_, fun ⟨n, hn⟩ => hn ▸ by simp⟩
  obtain ⟨i, hi, rfl⟩ := List.mem_iff_getElem.1 hd
  rw [Vector.length_toList] at hi
  exact ⟨⟨i, hi⟩, by simp⟩

/-- No two enabled descriptors cover one block (R55). -/
theorem State.RegionsWf.covers_unique {s : State} (h : s.RegionsWf) {m n : RegionId} {block : Nat}
    (hm : s.regions.descriptors[m].covers block = true) (hn : s.regions.descriptors[n].covers block = true) : m = n := by
  rw [Descriptor.covers_iff] at hm hn
  by_contra hne
  rcases h.apart m n hne hm.1 hn.1 with hlt | hlt <;> omega

/-- Settles O50: the search finds the one descriptor that covers the block. -/
theorem policyLookupFollowsDescriptors : Obligations.PolicyLookupFollowsDescriptors := by
  unfold Obligations.PolicyLookupFollowsDescriptors
  intro s block hwf covers p
  have hcovers (n : RegionId) : s.regions.descriptors[n].covers block = true ↔ covers n := Descriptor.covers_iff _ _
  have hfilling : s.regions.filling block = true ↔ ∃ n, s.regions.fillMark = some n ∧ covers n := by
    rw [Regions.filling_iff]
    simp only [hcovers]
  cases hfind : s.regions.descriptors.toList.find? (fun d => d.covers block) with
  | none =>
    have hp : p = { mode := .vote, scrub := s.regions.defaultScrub, filling := s.regions.filling block } := by
      simp only [p, Regions.lookup, hfind]
    have hnone (n : RegionId) : ¬covers n := by
      rw [← hcovers]
      exact List.find?_eq_none.1 hfind _ (Regions.mem_descriptors.2 ⟨n, rfl⟩)
    rw [hp]
    exact ⟨fun n hn => absurd hn (hnone n), fun _ => ⟨rfl, rfl⟩, hfilling⟩
  | some d =>
    obtain ⟨n, rfl⟩ := Regions.mem_descriptors.1 (List.mem_of_find?_eq_some hfind)
    have hn : s.regions.descriptors[n].covers block = true :=
      List.find?_some (p := fun d : Descriptor => d.covers block) hfind
    have hp : p = { mode := s.regions.descriptors[n].mode, scrub := s.regions.descriptors[n].scrub,
                    filling := s.regions.filling block } := by
      simp only [p, Regions.lookup, hfind]
    rw [hp]
    refine ⟨fun m hm => ?_, fun hnone => absurd ((hcovers n).1 hn) (hnone n), hfilling⟩
    rw [hwf.covers_unique ((hcovers m).2 hm) hn]
    exact ⟨rfl, rfl⟩

/-! ## The reset state (R22 and the invariants) -/

theorem State.reset_eq_releaseReset : State.reset = (State.afterReset Straps.default ⟨false, false, false⟩ 0 []).releaseReset := rfl

theorem State.reset_lock (e : Engine) : State.reset.lock e = EngineLock.empty := by cases e <;> rfl

theorem State.reset_list (r : Replica) : (State.reset.port r).list = [] := by cases r <;> rfl

theorem State.reset_enginesWf : State.reset.EnginesWf where
  apart := fun e _ _ _ h => by rw [State.reset_lock] at h; cases h
  one := fun e _ => by rw [State.reset_lock]; rfl
  repairClaim := nofun
  repairHeld := nofun
  repairOp := fun h => absurd rfl h
  copyClaim := nofun
  copyHeld := nofun
  copyOp := fun h => absurd rfl h
  scrubClaim := nofun
  scrubHeld := nofun
  scrubOp := fun h => absurd rfl h
  scrubBlock := nofun

theorem State.reset_holdsWf : State.reset.HoldsWf where
  undrained := fun e _ h => by rw [State.reset_lock] at h; cases h
  repairBlock := fun _ h => h.elim nofun nofun
  copyBlock := fun _ h => h.elim nofun nofun
  scrubBlock := fun _ h => h.elim nofun nofun
  live := fun _ r x hx => by rw [State.reset_list] at hx; cases hx
  gone := fun _ r x hx => by rw [State.reset_list] at hx; cases hx
  alike := fun _ r _ x hx => by rw [State.reset_list] at hx; cases hx
  single := fun _ r => by rw [State.reset_list]; exact List.Pairwise.nil
  drains := fun e _ h => by rw [State.reset_lock] at h; cases h

/-- Settles O7: the reset rules by evaluation, and each invariant from the state that a hardware reset leaves. -/
theorem resetStateMeetsInvariants : Obligations.ResetStateMeetsInvariants := by
  unfold Obligations.ResetStateMeetsInvariants
  refine ⟨fun r => by cases r <;> exact ⟨rfl, rfl, rfl⟩, rfl, rfl, rfl, rfl, rfl, rfl, ?_, ?_, ?_, ?_, ?_, ?_, ?_, ?_,
    State.reset_enginesWf, State.reset_holdsWf⟩
  all_goals rw [State.reset_eq_releaseReset]
  · exact recordsWf_plain.release _ (recordsWf_plain.reset _ _ _ _)
  · exact queueWf_plain.release _ (queueWf_plain.reset _ _ _ _)
  · exact alertsWf_plain.release _ (alertsWf_plain.reset _ _ _ _)
  · exact healthWf_plain.release _ (healthWf_plain.reset _ _ _ _)
  · exact sessionWf_plain.release _ (sessionWf_plain.reset _ _ _ _)
  · exact regionsWf_plain.release _ (regionsWf_plain.reset _ _ _ _)
  · exact (rebuildWf_engineSide.steps State.writeWord_rebuildWf).release _ (rebuildWf_engineSide.reset _ _ _ _)
  · exact (portsWf_engineSide.steps State.writeWord_portsWf).release _ (portsWf_engineSide.reset _ _ _ _)

end Sys2Proof.Machine
end

section
/-! Predicates about locks, claims and engines, kept where a block is freed, an entry leaves a list, or a replica leaves: a claim is
granted only when it is pending and free, and a slot keeps its request. -/

namespace Sys2Proof.Machine

open Sys2Proof

/-! ## Requests are kept (R48) -/

/-- No entry of a voter list is lost. -/
def noneLost : SlotId → Replica → Prop := fun _ _ => False

theorem RequestsKept.of_slots {lost : SlotId → Replica → Prop} (hlost : ∀ i r, ¬lost i r) {s t : State}
    (h : ∀ i, t.slot i = s.slot i) : RequestsKept lost s t := fun i =>
  ⟨fun hn => (h i).trans hn, fun sl hsl => ⟨sl, (h i).trans hsl, rfl, fun _ => rfl, id, fun r _ hl _ => absurd hl (hlost i r),
    fun _ _ => rfl⟩⟩

theorem RequestsKept.refl (s : State) : RequestsKept noneLost s s := RequestsKept.of_slots (fun _ _ => id) fun _ => rfl

theorem RequestsKept.of_keeps {L : List Part} {s t : State} (h : Keeps L s t) (hL : Part.rt ∉ L) : RequestsKept noneLost s t :=
  RequestsKept.of_slots (fun _ _ => id) (h.slot hL)

/-- Entries lost one time and entries lost another time. -/
theorem RequestsKept.trans {L M : SlotId → Replica → Prop} {s t u : State} (h : RequestsKept L s t) (h' : RequestsKept M t u) :
    RequestsKept (fun i r => L i r ∨ M i r) s u := by
  intro i
  obtain ⟨hnone, hsome⟩ := h i
  obtain ⟨hnone', hsome'⟩ := h' i
  refine ⟨fun hn => hnone' (hnone hn), fun sl hsl => ?_⟩
  obtain ⟨sl', hsl', heq, hfixed, hfree, hlost, hkept⟩ := hsome sl hsl
  obtain ⟨sl'', hsl'', heq', hfixed', hfree', hlost', hkept'⟩ := hsome' sl' hsl'
  refine ⟨sl'', hsl'', by rw [heq', heq], fun hst => ?_, fun hst => hfree' (hfree hst), fun r role hl hp => ?_, fun r hn => ?_⟩
  · have hst' := hfixed hst
    exact (hfixed' (by rwa [hst'])).trans hst'
  · by_cases hL : L i r
    · rw [hkept' r (.inr fun role' => by rw [hlost r role hL hp]; simp), hlost r role hL hp]
    · rw [hlost' r role (hl.resolve_left hL) (by rw [hkept r (.inl hL), hp])]
  · have hfirst : sl'.voters.get r = sl.voters.get r := hkept r (hn.imp_left fun h hL => h (.inl hL))
    rw [hkept' r (hn.imp (fun h hM => h (.inr hM)) fun h role => by rw [hfirst]; exact h role), hfirst]

theorem RequestsKept.congr {L M : SlotId → Replica → Prop} (hLM : ∀ i r, L i r ↔ M i r) {s t : State} (h : RequestsKept L s t) :
    RequestsKept M s t := by
  rwa [show M = L from funext fun i => funext fun r => propext (hLM i r).symm]

theorem RequestsKept.after {L : SlotId → Replica → Prop} {s t u : State} (h' : RequestsKept noneLost t u) (h : RequestsKept L s t) :
    RequestsKept L s u := (h.trans h').congr fun _ _ => or_iff_left id

theorem RequestsKept.before {L : SlotId → Replica → Prop} {s t u : State} (h' : RequestsKept L t u) (h : RequestsKept noneLost s t) :
    RequestsKept L s u := (h.trans h').congr fun _ _ => or_iff_right id

/-- A slot moves between READY and WAITING. -/
theorem RequestsKept.of_slot_states {s t : State} (h : ∀ i, t.slot i = s.slot i ∨ ∃ sl st, s.slot i = some sl ∧
    (sl.state = .ready ∨ sl.state = .waiting) ∧ (st = .ready ∨ st = .waiting) ∧ t.slot i = some { sl with state := st }) :
    RequestsKept noneLost s t := by
  intro i
  rcases h i with h | ⟨sl, st, hsl, hfree, hst, ht⟩
  · exact ⟨fun hn => h.trans hn, fun sl hsl => ⟨sl, h.trans hsl, rfl, fun _ => rfl, id, fun _ _ hl _ => hl.elim, fun _ _ => rfl⟩⟩
  · refine ⟨fun hn => absurd (hn.symm.trans hsl) (by simp), fun sl' hsl' => ?_⟩
    obtain rfl := Option.some.inj (hsl.symm.trans hsl')
    exact ⟨_, ht, rfl, fun hfixed => absurd hfree (by rcases hfixed with h | h <;> simp [h]),
      fun _ => hst, fun _ _ hl _ => hl.elim, fun _ _ => rfl⟩

theorem State.promote_requestsKept (block : Nat) (s : State) : RequestsKept noneLost s (s.promote block) := by
  unfold State.promote
  split
  · exact RequestsKept.refl s
  · rename_i i _
    split
    · exact RequestsKept.refl s
    · rename_i sl hsl
      split
      · rename_i hcond
        simp only [Bool.and_eq_true, beq_iff_eq] at hcond
        refine RequestsKept.of_slot_states fun j => ?_
        rw [State.slot_setSlot]
        split
        · rename_i hj
          exact .inr ⟨sl, .ready, hj ▸ hsl, .inr hcond.1.1, .inl rfl, rfl⟩
        · exact .inl rfl
      · exact RequestsKept.refl s

theorem State.grantClaim_requestsKept (e : Engine) (block : Nat) (s : State) : RequestsKept noneLost s (s.grantClaim e block) := by
  refine RequestsKept.of_slot_states fun i => ?_
  rw [State.grantClaim_slot, holdBack_eq]
  cases hsl : s.slot i with
  | none => exact .inl rfl
  | some sl =>
    rw [Option.map_some]
    split
    · rename_i hcond
      exact .inr ⟨sl, .waiting, rfl, .inl hcond.2.2, .inr rfl, rfl⟩
    · exact .inl rfl

/-! ## Freed blocks -/

/-- The predicate is kept by what freeing a block is made of. -/
structure FreesKeep (P : State → Prop) : Prop where
  table : ∀ s t, Keeps [.rt] s t → t.rt.locks = s.rt.locks → RequestsKept noneLost s t → P s → P t
  grant : ∀ e block s, (s.lock e).claim = some block → s.ClaimFree e block → P s → P (s.grantClaim e block)
  undrain : ∀ e block s, (s.lock e).draining = some block → ¬s.OpsRemain e block → P s →
    P (s.setLock e { s.lock e with draining := none })

theorem State.promote_locks (block : Nat) (s : State) : (s.promote block).rt.locks = s.rt.locks := by
  unfold State.promote
  split
  · rfl
  · split
    · rfl
    · split <;> rfl

section Frees

variable {P : State → Prop} (h : FreesKeep P)
include h

theorem FreesKeep.promote (block : Nat) {s : State} (hs : P s) : P (s.promote block) :=
  h.table _ _ (State.promote_keeps block s) (State.promote_locks block s) (State.promote_requestsKept block s) hs

theorem FreesKeep.freeBlock (block : Nat) {s : State} (hs : P s) : P (s.freeBlock block) := by
  have hgrant (e : Engine) (hc : (s.claims e block && s.canGrant e block) = true) : P (s.grantClaim e block) := by
    rw [Bool.and_eq_true, State.claims_iff, State.canGrant_iff] at hc
    exact h.grant e block s hc.1 hc.2 hs
  unfold State.freeBlock
  split_ifs with hr hc hw
  · exact hgrant _ hr
  · exact hgrant _ hc
  · exact hgrant _ hw
  · exact h.promote block hs

theorem FreesKeep.goneLeft (e : Engine) (block : Nat) {s : State} (hs : P s) : P (s.goneLeft e block) := by
  by_cases hlast : (s.lock e).draining = some block ∧ ¬s.OpsRemain e block
  · rw [State.goneLeft_of_last hlast.1 hlast.2]
    exact h.freeBlock block (h.undrain e block s hlast.1 hlast.2 hs)
  · rw [State.goneLeft_of_not_last (by tauto)]
    exact hs

theorem FreesKeep.grantEarlier (e : Engine) (block : Nat) {s : State} (hs : P s) : P (s.grantEarlier e block) := by
  by_cases hwins : (s.lock e).claim = some block ∧ s.ClaimFree e block ∧ ¬s.Outranked e block
  · rw [State.grantEarlier_of_wins hwins.1 hwins.2.1 hwins.2.2]
    exact h.grant e block s hwins.1 hwins.2.1 hs
  · rw [not_and_or, not_and_or, not_not] at hwins
    rw [State.grantEarlier_of_not_wins hwins]
    exact hs

/-- A claim, given what its note does. -/
theorem FreesKeep.claim {Q : State → Prop} (e : Engine) (block : Nat)
    (hnote : ∀ s, P s → Q (s.setLock e { s.lock e with claim := some block })) {s : State} (hs : P s) : Q (s.claim e block) := by
  unfold State.claim
  refine hnote _ ?_
  cases e with
  | repair => exact h.grantEarlier _ _ (h.grantEarlier _ _ hs)
  | copy => exact h.grantEarlier _ _ hs
  | scrub => exact hs

/-- A released lock, given what its two notes do. -/
theorem FreesKeep.releaseLock (e : Engine) {s : State} (hnone : (s.lock e).held = none → P s)
    (hdrain : ∀ block, (s.lock e).held = some block → s.OpsRemain e block →
      P (s.setLock e { held := none, claim := none, draining := some block }))
    (hfree : ∀ block, (s.lock e).held = some block → ¬s.OpsRemain e block →
      P (s.setLock e { s.lock e with held := none, claim := none })) : P (s.releaseLock e) := by
  cases hheld : (s.lock e).held with
  | none => rw [State.releaseLock_of_none hheld]; exact hnone hheld
  | some block =>
    by_cases hops : s.OpsRemain e block
    · rw [State.releaseLock_of_ops hheld hops]; exact hdrain block hheld hops
    · rw [State.releaseLock_of_no_ops hheld hops]; exact h.freeBlock block (hfree block hheld hops)

end Frees

/-- The predicate is kept where an entry that leaves a list is handed on. -/
structure HandsKeep (P : State → Prop) : Prop where
  left : ∀ e block s, P s → P (s.goneLeft e block)
  answered : ∀ i r x s, P s → P (s.setSlot i ((s.slot i).map fun sl => sl.recordAnswer r x))
  op : ∀ e r x s, P s → P (s.setEngineOp e ((s.engineOp e).recordAnswer r x))

theorem HandsKeep.handOn {P : State → Prop} (h : HandsKeep P) (r : Replica) (x : OpAnswer) (entry : IssueEntry) {s : State}
    (hs : P s) : P (s.handOn r x entry) := by
  cases howner : entry.op.owner with
  | slot i => rw [State.handOn_slot howner]; exact h.answered i r x s hs
  | engine e =>
    cases hgone : entry.ownerGone with
    | true => rw [State.handOn_gone howner hgone]; exact h.left _ _ s hs
    | false => rw [State.handOn_live howner hgone]; exact h.op e r x s hs

theorem HandsKeep.emptyPort {P : State → Prop} (h : HandsKeep P) (hemptied : ∀ r s, P s → P (s.setPort r (s.port r).emptied))
    (r : Replica) {s : State} (hs : P s) : P (s.emptyPort r) := by
  rw [State.emptyPort_eq]
  exact foldl_keeps (fun s entry => h.handOn r .lost entry) _ (hemptied r s hs)

theorem HandsKeep.beginAbort {P : State → Prop} (h : HandsKeep P) (hemptied : ∀ r s, P s → P (s.setPort r (s.port r).emptied))
    (hassert : ∀ r s, P s → P (s.assertAbort r)) (r : Replica) {s : State} (hs : P s) : P (s.beginAbort r) :=
  hassert r _ (h.emptyPort hemptied r hs)

/-! ## Retirements and ends of a copy -/

/-- The parts that say nothing about locks, engines and lists. -/
abbrev outsideSide : List Part := [.pins, .health, .regions, .queue, .records, .alerts, .session, .freeIndex, .pending]

/-- The predicate is kept by what a retirement does to locks, engines and lists. -/
structure RetireKeep (P : State → Prop) : Prop where
  outer : Ignores outsideSide P
  runCount : ∀ n s, P s → P { s with ports := { s.ports with runCount := n } }
  mask : ∀ r s, P s → P { s with repair := s.repair.retire r }
  beginAbort : ∀ r s, P s → P (s.beginAbort r)

/-- The predicate is kept by what a retirement and the end of a copy do to locks, engines and lists. -/
structure SideKeep (P : State → Prop) : Prop extends RetireKeep P where
  copyStopped : ∀ o s, P s → P (s.copyStopped o)

section Retire

variable {P : State → Prop} (h : RetireKeep P)
include h

theorem RetireKeep.frame {L : List Part} {s t : State} (hk : Keeps L s t) (hL : L ⊆ outsideSide) (hs : P s) : P t :=
  h.outer.of_keeps hk hL hs

theorem RetireKeep.retirePort (r : Replica) {s : State} (hs : P s) : P (s.retirePort r) := by
  by_cases hready : (s.port r).state = .ready
  · rw [State.retirePort_of_ready hready]; exact h.beginAbort r s hs
  · rw [State.retirePort_of_not_ready hready]; exact hs

theorem RetireKeep.retireCore (r : Replica) (reason : RetireReason) {s : State} (hs : P s) : P (s.retireCore r reason) := by
  have haccount : P (s.retireAccount r reason) := h.frame (State.retireAccount_keeps r reason s) (by decide) hs
  rw [State.retireCore_eq]
  exact h.frame (State.retireFromQueue_keeps r _) (by decide) (h.retirePort r (h.mask r _ haccount))

theorem RetireKeep.settleRunCount {s : State} (hs : P s) : P s.settleRunCount := by
  unfold State.settleRunCount
  split
  · exact h.runCount _ _ hs
  · exact hs

theorem RetireKeep.copyHandOver (kind : CopyKind) (o : CopyOutcome) {s : State} (hs : P s) : P (s.copyHandOver kind o) := by
  unfold State.copyHandOver
  split
  · exact hs
  · exact h.frame (State.unmark_keeps s) (by decide) hs
  · split
    · exact h.frame (State.joinRebuilt_keeps _ _ _) (by decide) hs
    · exact h.retireCore _ _ hs

theorem RetireKeep.copyEnd_of_stopped (o : CopyOutcome) {s : State} (hs : P (s.copyStopped o)) : P (s.copyEnd o) := by
  have hclosed : P (s.copyClosed o) := h.frame (State.raise_keeps _ _) (by decide) (h.copyHandOver _ _ hs)
  rw [State.copyEnd_eq]
  split
  · exact hclosed
  · exact h.settleRunCount hclosed

end Retire

section Side

variable {P : State → Prop} (h : SideKeep P)
include h

theorem SideKeep.copyEnd (o : CopyOutcome) {s : State} (hs : P s) : P (s.copyEnd o) := h.toRetireKeep.copyEnd_of_stopped o (h.copyStopped o s hs)

theorem SideKeep.retire (r : Replica) (reason : RetireReason) {s : State} (hs : P s) : P (s.retire r reason) := by
  unfold State.retire
  simp only
  split
  · exact h.copyEnd _ (h.toRetireKeep.retireCore _ _ hs)
  · exact h.toRetireKeep.retireCore _ _ hs

theorem SideKeep.charge (r : Replica) (k : ChargeKind) {s : State} (hs : P s) : P (s.charge r k) := by
  have hcharged : P (s.applyCharge r k) := h.toRetireKeep.frame (State.applyCharge_keeps r k s) (by decide) hs
  unfold State.charge
  split
  · unfold State.autoRetire
    simp only
    split
    · exact h.retire r _ hcharged
    · exact hcharged
  · exact hs

theorem SideKeep.reports : ReportsKeep P where
  record := fun e s _ => h.toRetireKeep.frame (State.recordEvent_keeps e s) (by decide)
  dataLoss := fun s => h.toRetireKeep.frame (State.raise_keeps .dataLoss s) (by decide)
  insert := fun b m n s _ => h.toRetireKeep.frame (State.insertRepair_keeps b m n s) (by decide)
  charge := fun r k _ => h.charge r k

theorem SideKeep.targetFailure (r : Replica) {s : State} (hs : P s) : P (s.targetFailure r) := by
  unfold State.targetFailure
  split
  · exact h.copyEnd _ hs
  · exact hs

end Side

end Sys2Proof.Machine
end

section
/-! The end of a copy (R157 to R159): the context it leaves, its ports, its accounts and its events; COPY_ABORT, RETIRE and FILL. -/

namespace Sys2Proof.Machine

open Sys2Proof

/-! ## A copy that has stopped -/

/-- The copy engine holds this context, without a lock or a claim. -/
structure State.CopyStands (c : Copy) (s : State) : Prop where
  copy : s.copy = c
  claim : (s.lock .copy).claim = none
  held : (s.lock .copy).held = none

theorem State.CopyStands.of_lock {c : Copy} {s t : State} (hs : s.CopyStands c) (hcopy : t.copy = s.copy)
    (hclaim : (t.lock .copy).claim = (s.lock .copy).claim) (hheld : (t.lock .copy).held = (s.lock .copy).held) : t.CopyStands c :=
  ⟨hcopy.trans hs.copy, hclaim.trans hs.claim, hheld.trans hs.held⟩

theorem State.lock_congr {s t : State} (h : t.rt.locks = s.rt.locks) (e : Engine) : t.lock e = s.lock e := by
  simp only [State.lock, h]

theorem copyStands_frees (c : Copy) : FreesKeep (State.CopyStands c) where
  table := fun s t hk hl _ hs => hs.of_lock (hk.copy (by decide)) (by rw [State.lock_congr hl]) (by rw [State.lock_congr hl])
  grant := fun e block s hclaim _ hs => by
    have he : e ≠ .copy := fun he => by rw [he, hs.claim] at hclaim; cases hclaim
    have hlock : (s.grantClaim e block).lock .copy = s.lock .copy := State.grantClaim_lock_other block s he.symm (by decide)
    exact hs.of_lock (State.grantClaim_copy_of_ne he block s) (by rw [hlock]) (by rw [hlock])
  undrain := fun e block s _ _ hs => by
    refine hs.of_lock rfl ?_ ?_ <;> rw [State.lock_setLock] <;> split <;> simp_all

theorem copyStands_hands {c : Copy} (hop : c.op = .none) : HandsKeep (State.CopyStands c) where
  left := fun e block _ => (copyStands_frees c).goneLeft e block
  answered := fun i r x s hs => hs.of_lock rfl rfl rfl
  op := fun e r x s hs => by
    cases e with
    | repair => exact hs.of_lock rfl rfl rfl
    | scrub => exact hs.of_lock rfl rfl rfl
    | copy =>
      have hnone : (s.engineOp .copy).recordAnswer r x = s.engineOp .copy := by
        have : s.engineOp .copy = .none := (congrArg Copy.op hs.copy).trans hop
        rw [this]; rfl
      rw [hnone, State.setEngineOp_engineOp]
      exact hs

theorem copyStands_retire {c : Copy} (hop : c.op = .none) : RetireKeep (State.CopyStands c) where
  outer := fun s t hk hs => hs.of_lock (hk.copy (by decide)) (by rw [hk.lock (by decide)]) (by rw [hk.lock (by decide)])
  runCount := fun _ _ hs => hs.of_lock rfl rfl rfl
  mask := fun _ _ hs => hs.of_lock rfl rfl rfl
  beginAbort := fun r s hs => (copyStands_hands hop).beginAbort (fun _ _ hs => hs.of_lock rfl rfl rfl)
    (fun _ _ hs => hs.of_lock rfl rfl rfl) r hs

theorem State.copyStopped_stands (o : CopyOutcome) (s : State) : (s.copyStopped o).CopyStands (s.copy.ended o) := by
  have hwithdrawn : ∀ t : State, t.copy = s.copy.ended o → ((t.withdrawn .copy).copy = s.copy.ended o)
      ∧ ((t.withdrawn .copy).lock .copy).claim = none := fun t ht => ⟨ht, by rw [State.withdrawn_lock, if_pos rfl]⟩
  obtain ⟨hcopy, hclaim⟩ := hwithdrawn ({ s with copy := s.copy.ended o } : State).copyForget rfl
  rw [State.copyStopped, State.abandon_eq_releaseLock]
  refine (copyStands_frees _).releaseLock .copy (fun hheld => ⟨hcopy, hclaim, hheld⟩) (fun _ _ _ => ⟨hcopy, ?_, ?_⟩)
    (fun _ _ _ => ⟨hcopy, ?_, ?_⟩) <;> rw [State.lock_setLock_self]

theorem State.copyStopped_copy (o : CopyOutcome) (s : State) : (s.copyStopped o).copy = s.copy.ended o :=
  (s.copyStopped_stands o).copy

/-- Every end of a copy leaves its context IDLE, with no lock and no claim (R157 steps 1 and 2). -/
theorem State.copyEnd_stands (o : CopyOutcome) (s : State) : (s.copyEnd o).CopyStands (s.copy.ended o) :=
  (copyStands_retire rfl).copyEnd_of_stopped o (s.copyStopped_stands o)

/-! ## What a copy hands over -/

/-- The state that the end of a copy hands over, before its event and the run count (R157 steps 3 and 4). -/
def State.copyHanded (o : CopyOutcome) (s : State) : State := (s.copyStopped o).copyHandOver s.copy.kind o

theorem State.copyClosed_eq (o : CopyOutcome) (s : State) : s.copyClosed o = (s.copyHanded o).raise .copyDone := by
  rw [State.copyClosed, State.copyStopped_copy]
  rfl

theorem State.settleRunCount_fields (s : State) : (∀ r, s.settleRunCount.port r = s.port r)
    ∧ s.settleRunCount.ports.replyTimeout = s.ports.replyTimeout := by
  unfold State.settleRunCount
  split <;> exact ⟨fun _ => rfl, rfl⟩

theorem State.copyEnd_handed (o : CopyOutcome) (s : State) : Keeps [.ports, .alerts] (s.copyHanded o) (s.copyEnd o) := by
  rw [State.copyEnd_eq, State.copyClosed_eq]
  split
  · exact (State.raise_keeps _ _).mono (by decide)
  · exact (State.settleRunCount_keeps _).after (by decide) ((State.raise_keeps _ _).mono (by decide))

theorem State.copyEnd_alerts (o : CopyOutcome) (s : State) : (s.copyEnd o).alerts = ((s.copyHanded o).raise .copyDone).alerts := by
  rw [State.copyEnd_eq, State.copyClosed_eq]
  split
  · rfl
  · exact (State.settleRunCount_keeps _).alerts (by decide)

theorem State.copyEnd_cause {c : Cause} (hc : c ≠ .copyDone) (o : CopyOutcome) (s : State) :
    (s.copyEnd o).alerts.causes.get c = (s.copyHanded o).alerts.causes.get c := by
  rw [State.copyEnd_alerts]
  exact (State.raise_moved .copyDone _).others c (by simpa using hc)

theorem State.copyEnd_port_eq_handed (o : CopyOutcome) (s : State) (r : Replica) :
    (s.copyEnd o).port r = (s.copyHanded o).port r := by
  rw [State.copyEnd_eq, State.copyClosed_eq]
  split
  · rfl
  · exact (State.settleRunCount_fields _).1 r

theorem State.copyHanded_of_fill {s : State} {n : RegionId} (h : s.copy.kind = .fill n) (o : CopyOutcome) :
    s.copyHanded o = (s.copyStopped o).unmark := by
  rw [State.copyHanded, h]
  rfl

theorem State.copyHanded_of_none {s : State} (h : s.copy.kind = .none) (o : CopyOutcome) : s.copyHanded o = s.copyStopped o := by
  rw [State.copyHanded, h]
  rfl

theorem State.copyHanded_of_completed {s : State} {r : Replica} (h : s.copy.kind = .rebuild r) :
    s.copyHanded .completed = (s.copyStopped .completed).joinRebuilt r s.copy.skipCount := by
  rw [State.copyHanded, h]
  have hskip : (s.copyStopped .completed).copy.skipCount = s.copy.skipCount := by rw [State.copyStopped_copy]; rfl
  rw [← hskip]
  rfl

theorem State.copyHanded_of_ended {s : State} {r : Replica} {o : CopyOutcome} (h : s.copy.kind = .rebuild r) (ho : o ≠ .completed) :
    s.copyHanded o = (s.copyStopped o).retireCore r .rebuildFailed := by
  rw [State.copyHanded, h]
  exact if_neg ho

theorem State.copyStopped_account (o : CopyOutcome) (s : State) (r : Replica) : (s.copyStopped o).account r = s.account r :=
  (State.copyStopped_keeps o s).account (by decide) r

theorem State.copyStopped_port (o : CopyOutcome) (s : State) (r : Replica) : (s.copyStopped o).port r = (s.port r).markGone .copy := by
  rw [State.copyStopped, State.abandon_eq_releaseLock, (State.releaseLock_keeps _ _).port (by decide), State.withdrawn_port]
  rfl

theorem State.copyEnd_account (o : CopyOutcome) (s : State) (r : Replica) : (s.copyEnd o).account r = (s.copyHanded o).account r :=
  (State.copyEnd_handed o s).account (by decide) r

theorem State.copyEnd_keeps_health_of_fill {s : State} {n : RegionId} (h : s.copy.kind = .fill n) (o : CopyOutcome) :
    (s.copyEnd o).regions = { s.regions with fillMark := none } ∧ (s.copyEnd o).health = s.health := by
  rw [(State.copyEnd_handed o s).regions (by decide), (State.copyEnd_handed o s).health (by decide), State.copyHanded_of_fill h,
    State.unmark, (State.copyStopped_keeps o s).regions (by decide)]
  exact ⟨rfl, (State.copyStopped_keeps o s).health (by decide)⟩

/-- The end of a rebuild that did not complete retires its target, and no other account changes (R18, R157). -/
theorem State.copyEnd_account_of_ended {s : State} {r : Replica} {o : CopyOutcome} (h : s.copy.kind = .rebuild r)
    (ho : o ≠ .completed) (q : Replica) :
    (s.copyEnd o).account q = if q = r then { s.account r with state := .retired, reason := .rebuildFailed } else s.account q := by
  rw [State.copyEnd_account, State.copyHanded_of_ended h ho]
  split
  · rename_i hq; rw [hq, State.retireCore_account_self, State.copyStopped_account]
  · rename_i hq; rw [(State.retireCore_healthMoved r _ _).others q hq, State.copyStopped_account]

/-- The ports after the end of a copy: its entries are marked, and the target of a rebuild that did not complete begins its abort. -/
theorem State.copyEnd_port (o : CopyOutcome) (s : State) (q : Replica) :
    (s.copyEnd o).port q =
      if s.copy.kind = .rebuild q ∧ o ≠ .completed ∧ (s.port q).state = .ready then ((s.port q).markGone .copy).begun
      else (s.port q).markGone .copy := by
  rw [State.copyEnd_port_eq_handed]
  cases hkind : s.copy.kind with
  | none => rw [State.copyHanded_of_none hkind, State.copyStopped_port, if_neg (by simp)]
  | fill n =>
    rw [State.copyHanded_of_fill hkind, if_neg (by simp)]
    exact State.copyStopped_port o s q
  | rebuild r =>
    by_cases ho : o = .completed
    · subst ho
      rw [State.copyHanded_of_completed hkind, (State.joinRebuilt_keeps _ _ _).port (by decide), State.copyStopped_port,
        if_neg (by simp)]
    · rw [State.copyHanded_of_ended hkind ho, State.retireCore_port, State.copyStopped_port, State.copyStopped_port]
      by_cases hq : q = r
      · subst hq
        simp [ho, Port.markGone]
      · have hqr : ¬r = q := fun h => hq h.symm
        simp [hq, hqr]

theorem State.joinRebuilt_cause (r : Replica) (n : Nat) (s : State) :
    (s.joinRebuilt r n).alerts.causes.get (.health r) =
      if n = 0 then s.alerts.causes.get (.health r)
      else (s.alerts.causes.get (.health r)).suspectEntry (s.account r).alertMode := by
  unfold State.joinRebuilt
  simp only
  rw [(State.handDegraded_moved _).others _ (by simp)]
  split
  · rfl
  · rw [State.setAccount_suspectEntry_cause]

theorem State.joinRebuilt_degraded (r : Replica) (n : Nat) (s : State) :
    (s.joinRebuilt r n).alerts.causes.get .degraded =
      (s.alerts.causes.get .degraded).setCondition (decide ((s.joinRebuilt r n).votingCount < 3)) := by
  have hhanded (u : State) (hu : u.alerts.causes.get .degraded = s.alerts.causes.get .degraded) :
      u.handDegraded.alerts.causes.get .degraded =
        (s.alerts.causes.get .degraded).setCondition (decide (u.handDegraded.votingCount < 3)) := by
    rw [← hu]
    exact State.setCondition_get .degraded _ u
  refine hhanded _ ?_
  split
  · rfl
  · exact (State.suspectEntry_moved r _).others .degraded (by simp)

theorem State.copyEnd_target (o : CopyOutcome) (s : State) : (s.copyEnd o).repair.target = none := by
  have hgrants : GrantsKeep fun t => t.repair.target = none :=
    { table := fun _ _ hk hs => by simpa only [hk.repair (by decide)] using hs
      granted := fun e s hs => by
        cases e with
        | repair => exact hs
        | scrub => exact hs
        | copy =>
          unfold State.engineGranted
          simp only
          split <;> exact hs
      visit := fun _ _ => id
      op := fun e _ _ hs => by cases e <;> exact hs
      emptied := fun _ _ => id
      assertAbort := fun _ _ => id
      marked := fun _ _ => id }
  have hretire : RetireKeep fun t => t.repair.target = none :=
    { outer := fun _ _ hk hs => by simpa only [hk.repair (by decide)] using hs
      runCount := fun _ _ => id
      mask := fun r s hs => by
        change (s.repair.retire r).target = none
        unfold Repair.retire
        split <;> exact hs
      beginAbort := fun r _ => hgrants.beginAbort r }
  exact hretire.copyEnd_of_stopped o (hgrants.abandon .copy rfl)

theorem State.copyStopped_alerts (o : CopyOutcome) (s : State) : (s.copyStopped o).alerts = s.alerts :=
  (State.copyStopped_keeps o s).alerts (by decide)

theorem State.commandCopyAbort_of_idle {s : State} (h : s.copy.state = .idle) : s.commandCopyAbort = (.refusedState, s) := if_pos h

theorem State.commandCopyAbort_of_copying {s : State} (h : s.copy.state ≠ .idle) :
    s.commandCopyAbort = (.done, s.copyEnd .abortedCommand) := if_neg h

/-- Settles O49: the context stands as the stop left it, and the hand-over is the kind's. -/
theorem copyAbortEndsTheCopy : Obligations.CopyAbortEndsTheCopy := by
  unfold Obligations.CopyAbortEndsTheCopy
  refine ⟨fun s tag v hready => ⟨fun hidle => ?refused, fun hcopying => ?taken⟩, fun s o => ?ends⟩
  case refused =>
    obtain ⟨t, ht, htaken⟩ := State.acceptWordWrite_settled (k := 43) (v := v) hready (by decide) (.inl rfl) rfl
      (State.commandCopyAbort_of_idle hidle) rfl
    exact ⟨t, congrArg Host.Outcome.next ht, by decide, htaken⟩
  case taken =>
    obtain ⟨t, ht, htaken⟩ := State.acceptWordWrite_settled (k := 43) (v := v) hready (by decide) (.inl rfl) rfl
      (State.commandCopyAbort_of_copying hcopying) (State.copyEnd_table _ s).holding
    have hcopy := (s.copyEnd_stands .abortedCommand).copy
    exact ⟨_, t, congrArg Host.Outcome.next ht, htaken, rfl, by rw [hcopy]; rfl, by rw [hcopy]; rfl⟩
  case ends =>
    have hstands := s.copyEnd_stands o
    have hkeeps := s.copyEnd_keeps o
    have hend (r : Replica) (c : Cause) (hc : c ≠ .copyDone) (ho : o = .completed) (hkind : s.copy.kind = .rebuild r) :
        (s.copyEnd o).alerts.causes.get c = ((s.copyStopped o).joinRebuilt r s.copy.skipCount).alerts.causes.get c := by
      subst ho
      rw [State.copyEnd_cause hc, State.copyHanded_of_completed hkind]
    have hjoined (r : Replica) (ho : o = .completed) (hkind : s.copy.kind = .rebuild r) :
        (s.copyEnd o).account r = (s.copyStopped o).joinedAccount r s.copy.skipCount := by
      subst ho
      rw [State.copyEnd_account, State.copyHanded_of_completed hkind, State.joinRebuilt_account_self]
    have hhealth : (s.copyStopped o).health = s.health := (State.copyStopped_keeps o s).health (by decide)
    refine ⟨hstands.copy, hstands.held, hstands.claim, State.copyEnd_target o s, fun r x hx howner => ?gone,
      fun n hkind => State.copyEnd_keeps_health_of_fill hkind o, fun r hkind ho => ⟨?_, ?retireLatch⟩,
      fun r hkind ho hskip => ⟨?healthy, ?healthyCause⟩, fun r hkind ho hskip => ⟨?suspect, ?suspectCause⟩,
      fun r hkind ho => ?degraded, ?copyDone, hkeeps.records (by decide), hkeeps.session (by decide), hkeeps.pins (by decide)⟩
    case gone =>
      rw [State.copyEnd_port] at hx
      split at hx
      · cases hx
      · obtain ⟨y, -, rfl⟩ := List.mem_map.1 hx
        split
        · rfl
        · rename_i hn; rw [if_neg hn] at howner; simp [howner] at hn
    · rw [State.copyEnd_account_of_ended hkind ho, if_pos rfl]
    case retireLatch =>
      change ((s.copyEnd o).alerts.causes.get .retire).latch = true
      rw [State.copyEnd_cause (by decide), State.copyHanded_of_ended hkind ho]
      exact State.retireCore_retire_latch r _ _
    case healthy => rw [hjoined r ho hkind, State.joinedAccount, if_pos hskip, State.copyStopped_account]
    case healthyCause =>
      rw [hend r _ (by simp) ho hkind, State.joinRebuilt_cause, if_pos hskip, State.copyStopped_alerts]
    case suspect => rw [hjoined r ho hkind, State.joinedAccount, if_neg hskip, State.copyStopped_account, hhealth]
    case suspectCause =>
      rw [hend r _ (by simp) ho hkind, State.joinRebuilt_cause, if_neg hskip, State.copyStopped_alerts, State.copyStopped_account]
    case degraded =>
      have hcount : (s.copyEnd o).votingCount = ((s.copyStopped o).joinRebuilt r s.copy.skipCount).votingCount := by
        subst ho
        rw [(State.copyEnd_handed _ s).votingCount (by decide), State.copyHanded_of_completed hkind]
      change (s.copyEnd o).alerts.causes.get .degraded = _
      rw [hend r .degraded (by simp) ho hkind, State.joinRebuilt_degraded, State.copyStopped_alerts, hcount]
      rfl
    case copyDone =>
      change ((s.copyEnd o).alerts.causes.get .copyDone).latch = true
      rw [State.copyEnd_alerts]
      exact State.raise_latch .copyDone _

/-! ## RETIRE and FILL (R12, R143) -/

section RetireCommand

variable {s : State} {v : Word} {r : Replica} (hr : replicaOperand v = some r)
include hr

theorem State.commandRetire_of_refused (h : (s.account r).votes = false ∨ s.votingCount = 1) :
    s.commandRetire v = (.refusedState, s) := by
  unfold State.commandRetire
  rw [hr]
  exact if_pos (by simpa using h)

theorem State.commandRetire_of_taken (hvotes : (s.account r).votes = true) (hcount : s.votingCount ≠ 1) :
    s.commandRetire v = (.done, s.retireCore r .command) := by
  unfold State.commandRetire
  rw [hr, ← State.retire_eq_retireCore .command hvotes hcount]
  exact if_neg (by simp [hvotes, hcount])

end RetireCommand

/-- Settles O19: the three refusals, and a retirement that leaves somebody to vote. -/
theorem retireCommandAnswers : Obligations.RetireCommandAnswers := by
  unfold Obligations.RetireCommandAnswers
  refine fun s tag v hready => ⟨fun hbig => ?argument, fun r hr => ⟨fun hno => ?refused, fun hvotes hcount => ?taken⟩⟩
  case argument =>
    have hnone : s.commandRetire v = (.refusedArgument, s) := by
      unfold State.commandRetire
      rw [replicaOperand_eq_none hbig]
    obtain ⟨t, ht, htaken⟩ := State.acceptWordWrite_settled (k := 40) hready (by decide) (.inl rfl) rfl hnone rfl
    exact ⟨t, congrArg Host.Outcome.next ht, by decide, htaken⟩
  case refused =>
    obtain ⟨t, ht, htaken⟩ := State.acceptWordWrite_settled (k := 40) hready (by decide) (.inl rfl) rfl
      (State.commandRetire_of_refused (replicaOperand_eq_some hr) hno) rfl
    exact ⟨t, congrArg Host.Outcome.next ht, by decide, htaken⟩
  case taken =>
    obtain ⟨t, ht, htaken⟩ := State.acceptWordWrite_settled (k := 40) hready (by decide) (.inl rfl) rfl
      (State.commandRetire_of_taken (replicaOperand_eq_some hr) hvotes hcount) (State.retireCore_table r .command s).holding
    exact ⟨_, t, congrArg Host.Outcome.next ht, htaken, rfl, State.retireCore_account_self r .command s⟩

/-- The state in which a FILL that is DONE makes its claim. -/
def State.fillPurged (n : RegionId) (s : State) : State :=
  (s.startFill n).purgeQueue s.regions.descriptors[n].first s.regions.descriptors[n].last

theorem State.fillPurged_keeps (n : RegionId) (s : State) : Keeps [.copy, .regions, .queue, .alerts] s (s.fillPurged n) :=
  (State.purgeQueue_keeps _ _ _).after (by decide) ((State.startFill_keeps n s).mono (by decide))

theorem State.fillPurged_moved (n : RegionId) (s : State) : AlertsMoved [.queueFull] s (s.fillPurged n) :=
  (AlertsMoved.of_keeps (State.startFill_keeps n s) (by decide) (by decide)).trans (State.setQueue_moved _ _)

/-- Settles O21: the five checks, and a fill that starts. -/
theorem fillCommandAnswers : Obligations.FillCommandAnswers := by
  unfold Obligations.FillCommandAnswers
  refine fun s tag v hready => ⟨fun hbig => ?argument, fun n hn =>
    ⟨fun hbusy => ?busy, fun hidle hno => ?refused, fun hidle henabled hcount => ?taken⟩⟩
  case argument =>
    exact ⟨_, rfl, State.acceptWordWrite_refused hready (by decide) (.inl rfl) rfl
      (State.commandFill_of_no_region (regionOperand_eq_none hbig) s) (by decide)⟩
  all_goals have heq := State.commandFill_eq (regionOperand_eq_some hn) s
  case busy =>
    rw [if_pos hbusy] at heq
    exact ⟨_, rfl, State.acceptWordWrite_refused hready (by decide) (.inl rfl) rfl heq (by decide)⟩
  case refused =>
    have hrefused : s.commandFill v = (.refusedState, s) := by
      rw [heq, if_neg (not_not_intro hidle)]
      split
      · rfl
      · rename_i henabled
        exact if_pos ((State.voting_isEmpty_iff s).2 (hno.resolve_left fun h => henabled (by rw [h]; rfl)))
    exact ⟨_, rfl, State.acceptWordWrite_refused hready (by decide) (.inl rfl) rfl hrefused (by decide)⟩
  case taken =>
    rw [if_neg (not_not_intro hidle), if_neg (by rw [henabled]; decide), if_neg (mt (State.voting_isEmpty_iff s).1 hcount)] at heq
    have hpurged := s.fillPurged_keeps n
    obtain ⟨hcopy, hrepair, hscrub, hkeeps⟩ := State.claim_copy_spec s.regions.descriptors[n].first (s.fillPurged n)
    rw [hpurged.lock (by decide)] at hcopy hrepair
    rw [hpurged.lock (by decide), hpurged.rt (by decide)] at hscrub
    have hholding : (s.fillStarted n).rt.holding = s.rt.holding :=
      (State.claim_table .copy _ (s.fillPurged n)).holding.trans (by rw [hpurged.rt (by decide)])
    exact ⟨s.fillPurged n, _, _, rfl, State.acceptWordWrite_taken hready (by decide) (.inl rfl) rfl heq hholding, rfl, rfl, rfl,
      State.setQueue_queueFull _ _, s.fillPurged_moved n, hpurged, rfl, hcopy, hrepair, hscrub, hkeeps⟩

end Sys2Proof.Machine
end

section
/-! A retirement block by block (R14, R97, R111, R124, R159), and PORT_DEAD. -/

namespace Sys2Proof.Machine

open Sys2Proof

/-! ## The requests of an abort (R97) -/

theorem requestsKept_frees (s₀ : State) : FreesKeep (RequestsKept noneLost s₀) where
  table := fun _ _ _ _ hr hs => hr.after hs
  grant := fun e block s _ _ hs => (State.grantClaim_requestsKept e block s).after hs
  undrain := fun _ _ _ _ _ hs => (RequestsKept.of_slots (fun _ _ => id) fun _ => rfl).after hs

/-- An answer or a loss that reaches a slot changes the one entry it is for. -/
theorem RequestsKept.setSlot_lost (i : SlotId) (r : Replica) (s : State) :
    RequestsKept (fun j q => q = r ∧ j = i) s (s.setSlot i ((s.slot i).map fun sl => sl.recordAnswer r .lost)) := by
  intro j
  rw [State.slot_setSlot]
  split
  case isFalse hj =>
    exact ⟨id, fun sl hsl => ⟨sl, hsl, rfl, fun _ => rfl, id, fun _ _ hl _ => absurd hl.2 hj, fun _ _ => rfl⟩⟩
  case isTrue hj =>
    subst hj
    refine ⟨fun hn => by rw [hn]; rfl, fun sl hsl => ⟨sl.recordAnswer r .lost, by rw [hsl]; rfl, ?_⟩⟩
    by_cases hpending : ∃ role, sl.voters.get r = some ⟨role, .pending⟩
    · obtain ⟨role, hrole⟩ := hpending
      rw [Slot.recordAnswer_of_pending hrole]
      refine ⟨rfl, fun _ => rfl, id, fun q role' hl hq => ?_, fun q hn => ?_⟩
      · obtain rfl := hl.1
        obtain rfl : role = role' := by simpa [hrole] using hq
        exact Tri.get_set_self _ _ _
      · rw [Tri.get_set, if_neg]
        rintro rfl
        exact hn.elim (fun h => h ⟨rfl, rfl⟩) fun h => h role hrole
    · rw [not_exists] at hpending
      rw [Slot.recordAnswer_of_not_pending hpending]
      exact ⟨rfl, fun _ => rfl, id, fun q role hl hq => absurd (hl.1 ▸ hq) (hpending role), fun _ _ => rfl⟩

theorem State.handOn_requestsKept (r : Replica) (entry : IssueEntry) (s : State) :
    RequestsKept (fun i q => q = r ∧ entry.op.owner = .slot i) s (s.handOn r .lost entry) := by
  cases howner : entry.op.owner with
  | slot i =>
    rw [State.handOn_slot howner]
    exact (RequestsKept.setSlot_lost i r s).congr fun j q => by rw [Owner.slot.injEq, eq_comm (a := i)]
  | engine e =>
    have hnobody (i : SlotId) (q : Replica) : noneLost i q ↔ q = r ∧ Owner.engine e = .slot i := by simp [noneLost]
    refine RequestsKept.congr hnobody ?_
    cases hgone : entry.ownerGone with
    | true => rw [State.handOn_gone howner hgone]; exact (requestsKept_frees s).goneLeft _ _ (RequestsKept.refl s)
    | false => rw [State.handOn_live howner hgone]; exact RequestsKept.of_keeps (State.setEngineOp_keeps _ _ _) (by decide)

theorem foldl_handOn_requestsKept (r : Replica) (l : List IssueEntry) (s : State) :
    RequestsKept (fun i q => q = r ∧ ∃ x ∈ l, x.op.owner = .slot i) s (l.foldl (fun s entry => s.handOn r .lost entry) s) := by
  induction l generalizing s with
  | nil => exact (RequestsKept.refl s).congr fun i q => by simp [noneLost]
  | cons x l ih =>
    refine ((State.handOn_requestsKept r x s).trans (ih _)).congr fun i q => ?_
    simp only [List.mem_cons, exists_eq_or_imp]
    tauto

theorem State.emptyPort_requestsKept (r : Replica) (s : State) :
    RequestsKept (fun i q => q = r ∧ ∃ x ∈ (s.port r).list, x.op.owner = .slot i) s (s.emptyPort r) := by
  rw [State.emptyPort_eq]
  exact (foldl_handOn_requestsKept r _ _).before (RequestsKept.of_keeps (State.setPort_keeps r _ s) (by decide))

theorem State.beginAbort_requestsKept (r : Replica) (s : State) :
    RequestsKept (fun i q => q = r ∧ ∃ x ∈ (s.port r).list, x.op.owner = .slot i) s (s.beginAbort r) :=
  (RequestsKept.of_keeps (State.assertAbort_keeps r _) (by decide)).after (State.emptyPort_requestsKept r s)

theorem State.retireCore_requestsKept (r : Replica) (reason : RetireReason) (s : State) :
    RequestsKept (fun i q => q = r ∧ (s.port r).state = .ready ∧ ∃ x ∈ (s.port r).list, x.op.owner = .slot i) s
      (s.retireCore r reason) := by
  have hretiring := s.retiring_keeps r reason
  have hport : (s.retiring r reason).port r = s.port r := hretiring.port (by decide) r
  rw [State.retireCore_eq_retirePort]
  refine (RequestsKept.of_keeps (State.retireFromQueue_keeps r _) (by decide)).after
    (RequestsKept.before ?_ (RequestsKept.of_keeps hretiring (by decide)))
  by_cases hready : (s.port r).state = .ready
  · rw [State.retirePort_of_ready (by rw [hport, hready])]
    exact (State.beginAbort_requestsKept r _).congr fun i q => by simp [hport, hready]
  · rw [State.retirePort_of_not_ready (by rwa [hport])]
    exact (RequestsKept.refl _).congr fun i q => by simp [noneLost, hready]

/-! ## The engines' ops under an abort (R97) -/

/-- The engine has no claim, and its op stands so. -/
def State.Awaits (e : Engine) (o : OpStage) (s : State) : Prop := (s.lock e).claim = none ∧ s.engineOp e = o

theorem Keeps.engineOp {L : List Part} {s t : State} (h : Keeps L s t) (hr : Part.repair ∉ L) (hc : Part.copy ∉ L)
    (hs : Part.scrub ∉ L) (e : Engine) : t.engineOp e = s.engineOp e := by
  cases e
  · exact congrArg Repair.op (h.repair hr)
  · exact congrArg Copy.op (h.copy hc)
  · exact congrArg Scrub.op (h.scrub hs)

/-- A grant to another engine leaves an engine without a claim as it is. -/
theorem State.grantClaim_engineOp {e e' : Engine} {block : Nat} {s : State} (he : e ≠ e') (hclaim : (s.lock e).claim = none) :
    (s.grantClaim e' block).engineOp e = s.engineOp e := by
  cases e with
  | repair => exact congrArg Repair.op (State.grantClaim_repair_of_ne he.symm block s)
  | copy => exact congrArg Copy.op (State.grantClaim_copy_of_ne he.symm block s)
  | scrub =>
    have hscrub : (s.grantClaim e' block).scrub = s.scrub := by
      rw [State.grantClaim_scrub_of_ne he.symm, if_neg (by rw [hclaim]; nofun)]
    exact congrArg Scrub.op hscrub

theorem State.grantClaim_claim {e e' : Engine} {block : Nat} {s : State} (hclaim : (s.lock e).claim = none) :
    ((s.grantClaim e' block).lock e).claim = none := by
  rw [State.grantClaim_lock]
  split_ifs <;> first | rfl | exact hclaim

theorem awaits_frees (e : Engine) (o : OpStage) : FreesKeep (State.Awaits e o) where
  table := fun s t hk hl _ hs => ⟨by rw [State.lock_congr hl]; exact hs.1,
    (hk.engineOp (by decide) (by decide) (by decide) e).trans hs.2⟩
  grant := fun e' block s hclaim _ hs => by
    have he : e ≠ e' := fun he => by rw [← he, hs.1] at hclaim; cases hclaim
    exact ⟨State.grantClaim_claim hs.1, (State.grantClaim_engineOp he hs.1).trans hs.2⟩
  undrain := fun e' block s _ _ hs => by
    refine ⟨?_, by cases e <;> exact hs.2⟩
    rw [State.lock_setLock]
    split
    · rename_i he; exact he ▸ hs.1
    · exact hs.1

theorem State.Awaits.setEngineOp {e : Engine} {o : OpStage} {s : State} (h : s.Awaits e o) (e' : Engine) (x : OpStage) :
    (s.setEngineOp e' x).Awaits e (if e = e' then x else o) := by
  refine ⟨by rw [(State.setEngineOp_keeps e' x s).lock (by decide)]; exact h.1, ?_⟩
  rw [State.engineOp_setEngineOp, h.2]

/-- What one entry that leaves a list hands an engine. -/
theorem State.Awaits.handOn {e : Engine} {o : OpStage} {s : State} (h : s.Awaits e o) (r : Replica) (x : OpAnswer)
    (entry : IssueEntry) :
    (s.handOn r x entry).Awaits e
      (if entry.op.owner = .engine e ∧ entry.ownerGone = false then o.recordAnswer r x else o) := by
  cases howner : entry.op.owner with
  | slot i =>
    rw [State.handOn_slot howner, if_neg (by simp)]
    refine ⟨h.1, ?_⟩
    rw [← h.2]
    exact (State.setSlot_keeps i _ s).engineOp (by decide) (by decide) (by decide) e
  | engine e' =>
    cases hgone : entry.ownerGone with
    | true =>
      rw [State.handOn_gone howner hgone, if_neg (by simp)]
      exact (awaits_frees e o).goneLeft _ _ h
    | false =>
      rw [State.handOn_live howner hgone]
      have hset := h.setEngineOp e' ((s.engineOp e').recordAnswer r x)
      by_cases he : e = e'
      · subst he
        rw [if_pos rfl, h.2] at hset
        rw [h.2, if_pos ⟨rfl, rfl⟩]
        exact hset
      · rw [if_neg he] at hset
        rw [if_neg fun hn => he (Owner.engine.inj hn.1).symm]
        exact hset

theorem recordAnswer_idem (answers : Tri (Option OpAnswer)) (r : Replica) {x : OpAnswer} (hx : x ≠ .pending) :
    recordAnswer (recordAnswer answers r x) r x = recordAnswer answers r x := by
  by_cases h : answers.get r = some .pending
  · rw [recordAnswer_of_pending h]
    refine recordAnswer_of_not_pending ?_ x
    rw [Tri.get_set_self]
    exact fun hn => hx (Option.some.inj hn)
  · rw [recordAnswer_of_not_pending h, recordAnswer_of_not_pending h]

theorem OpStage.recordAnswer_idem (o : OpStage) (r : Replica) {x : OpAnswer} (hx : x ≠ .pending) :
    (o.recordAnswer r x).recordAnswer r x = o.recordAnswer r x := by
  cases o with
  | out answers => exact congrArg OpStage.out (Machine.recordAnswer_idem answers r hx)
  | none => rfl
  | ready named => rfl

/-- A list holds a live entry of the engine. -/
def HasLive (e : Engine) (l : List IssueEntry) : Prop := ∃ x ∈ l, x.op.owner = .engine e ∧ x.ownerGone = false

theorem foldl_handOn_awaits {e : Engine} {o : OpStage} (r : Replica) (l : List IssueEntry) {s : State} (h : s.Awaits e o) :
    (HasLive e l → (l.foldl (fun s entry => s.handOn r .lost entry) s).Awaits e (o.recordAnswer r .lost))
      ∧ (¬HasLive e l → (l.foldl (fun s entry => s.handOn r .lost entry) s).Awaits e o) := by
  induction l generalizing s o with
  | nil => exact ⟨fun ⟨x, hx, _⟩ => absurd hx List.not_mem_nil, fun _ => h⟩
  | cons x l ih =>
    have hx := h.handOn r .lost x
    have hcons : HasLive e (x :: l) ↔ (x.op.owner = .engine e ∧ x.ownerGone = false) ∨ HasLive e l := by
      simp only [HasLive, List.mem_cons, exists_eq_or_imp]
    rw [List.foldl_cons, hcons]
    by_cases hlive : x.op.owner = .engine e ∧ x.ownerGone = false
    · rw [if_pos hlive] at hx
      obtain ⟨hsome, hnone⟩ := ih hx
      rw [OpStage.recordAnswer_idem o r (by decide)] at hsome
      exact ⟨fun _ => (Classical.em (HasLive e l)).elim hsome hnone, fun hn => absurd (.inl hlive) hn⟩
    · rw [if_neg hlive] at hx
      obtain ⟨hsome, hnone⟩ := ih hx
      exact ⟨fun hl => hsome (hl.resolve_left hlive), fun hn => hnone fun hl => hn (.inr hl)⟩

/-- What a retirement hands an engine that has no claim: its live entries in the list of a READY port are LOST. -/
theorem State.retireCore_awaits {e : Engine} {o : OpStage} {r : Replica} {s : State} (reason : RetireReason) (h : s.Awaits e o)
    (hmask : (s.repair.retire r).op = s.repair.op) :
    ((s.port r).state = .ready → HasLive e (s.port r).list → (s.retireCore r reason).Awaits e (o.recordAnswer r .lost))
      ∧ ((s.port r).state ≠ .ready ∨ ¬HasLive e (s.port r).list → (s.retireCore r reason).Awaits e o) := by
  have haccount := State.retireAccount_keeps r reason s
  have hretiring : (s.retiring r reason).Awaits e o := by
    refine ⟨by rw [(s.retiring_keeps r reason).lock (by decide)]; exact h.1, ?_⟩
    rw [← h.2]
    cases e with
    | repair => exact (congrArg (fun x => (Repair.retire x r).op) (haccount.repair (by decide))).trans hmask
    | copy => exact congrArg Copy.op (haccount.copy (by decide))
    | scrub => exact congrArg Scrub.op (haccount.scrub (by decide))
  have hport : (s.retiring r reason).port r = s.port r := (s.retiring_keeps r reason).port (by decide) r
  have hqueue {t : State} {o' : OpStage} (ht : t.Awaits e o') : (t.retireFromQueue r).Awaits e o' :=
    ⟨by rw [(State.retireFromQueue_keeps r t).lock (by decide)]; exact ht.1,
      ((State.retireFromQueue_keeps r t).engineOp (by decide) (by decide) (by decide) e).trans ht.2⟩
  rw [State.retireCore_eq_retirePort]
  by_cases hready : (s.port r).state = .ready
  · have hset : ((s.retiring r reason).setPort r ((s.retiring r reason).port r).emptied).Awaits e o :=
      ⟨hretiring.1, (by cases e <;> exact hretiring.2)⟩
    obtain ⟨hsome, hnone⟩ := foldl_handOn_awaits r ((s.retiring r reason).port r).list hset
    rw [hport] at hsome hnone
    rw [State.retirePort_of_ready (by rw [hport, hready])]
    have habort {t : State} {o' : OpStage} (ht : t.Awaits e o') : (t.assertAbort r).Awaits e o' :=
      ⟨ht.1, (by cases e <;> exact ht.2)⟩
    rw [State.beginAbort, State.emptyPort_eq, hport]
    exact ⟨fun _ hl => hqueue (habort (hsome hl)), fun hn => hqueue (habort (hnone (hn.resolve_left fun h => h hready)))⟩
  · rw [State.retirePort_of_not_ready (by rwa [hport])]
    exact ⟨fun h => absurd h hready, fun _ => hqueue hretiring⟩

/-! ## The active repair and the copy engine (R124, R159) -/

theorem Repair.retire_eq (a : Repair) (r : Replica) :
    a.retire r = { a with
      mask := if a.phase = .claim ∨ a.phase = .read then a.mask.set r false else a.mask
      sources := if a.phase = .claim then a.sources.set r false else a.sources } := by
  obtain ⟨phase, block, mask, sources, attempts, target, words, op⟩ := a
  cases phase <;> rfl

/-- The same repair, in another phase or with another op. -/
def Repair.SameWork (a b : Repair) : Prop := ∃ phase op, b = { a with phase := phase, op := op }

theorem Repair.SameWork.eq {a b : Repair} (h : a.SameWork b) : b = { a with phase := b.phase, op := b.op } := by
  obtain ⟨phase, op, rfl⟩ := h
  rfl

theorem Repair.SameWork.move {a b : Repair} (h : a.SameWork b) (phase : RepairPhase) (op : OpStage) :
    a.SameWork { b with phase := phase, op := op } := by
  obtain ⟨_, _, rfl⟩ := h
  exact ⟨phase, op, rfl⟩

theorem sameRepairWork_grants (a : Repair) : GrantsKeep fun t => a.SameWork t.repair where
  table := fun _ _ hk hs => by rwa [hk.repair (by decide)]
  granted := fun e s hs => by
    cases e with
    | repair => exact hs.move _ _
    | scrub => exact hs
    | copy =>
      unfold State.engineGranted
      simp only
      split <;> exact hs
  visit := fun _ _ => id
  op := fun e o s hs => by
    cases e with
    | repair => exact hs.move _ _
    | copy => exact hs
    | scrub => exact hs
  emptied := fun _ _ => id
  assertAbort := fun _ _ => id
  marked := fun _ _ => id

theorem State.retireCore_repair (r : Replica) (reason : RetireReason) (s : State) :
    (s.repair.retire r).SameWork (s.retireCore r reason).repair := by
  have hretiring : (s.retiring r reason).repair = s.repair.retire r :=
    congrArg (fun x => Repair.retire x r) ((State.retireAccount_keeps r reason s).repair (by decide))
  rw [State.retireCore_eq_retirePort, (State.retireFromQueue_keeps r _).repair (by decide)]
  exact (sameRepairWork_grants (s.repair.retire r)).retirePort r ⟨_, _, hretiring⟩

/-- The same copy at the same place, at another step or with another op. -/
def Copy.SameWork (c d : Copy) : Prop := ∃ step op, d = { c with step := step, op := op }

theorem Copy.SameWork.eq {c d : Copy} (h : c.SameWork d) : d = { c with step := d.step, op := d.op } := by
  obtain ⟨step, op, rfl⟩ := h
  rfl

theorem Copy.SameWork.move {c d : Copy} (h : c.SameWork d) (step : CopyStep) (op : OpStage) :
    c.SameWork { d with step := step, op := op } := by
  obtain ⟨_, _, rfl⟩ := h
  exact ⟨step, op, rfl⟩

theorem sameCopyWork_grants (c : Copy) : GrantsKeep fun t => c.SameWork t.copy where
  table := fun _ _ hk hs => by rwa [hk.copy (by decide)]
  granted := fun e s hs => by
    cases e with
    | repair => exact hs
    | scrub => exact hs
    | copy =>
      unfold State.engineGranted
      simp only
      split <;> exact hs.move _ _
  visit := fun _ _ => id
  op := fun e o s hs => by
    cases e with
    | copy => exact hs.move _ _
    | repair => exact hs
    | scrub => exact hs
  emptied := fun _ _ => id
  assertAbort := fun _ _ => id
  marked := fun _ _ => id

theorem State.retireCore_copy (r : Replica) (reason : RetireReason) (s : State) :
    s.copy.SameWork (s.retireCore r reason).copy := by
  have hretiring : (s.retiring r reason).copy = s.copy := (s.retiring_keeps r reason).copy (by decide)
  rw [State.retireCore_eq_retirePort, (State.retireFromQueue_keeps r _).copy (by decide)]
  exact (sameCopyWork_grants s.copy).retirePort r ⟨_, _, hretiring⟩

/-! ## The alert unit (R14, R179) -/

theorem State.retireAccount_moved (r : Replica) (reason : RetireReason) (s : State) :
    AlertsMoved [.health r, .retire, .degraded] s (s.retireAccount r reason) := by
  have hleave : AlertsMoved [.health r] s (if (s.account r).state = .suspect then s.suspectLeave r else s) := by
    split
    · exact State.suspectLeave_moved r s
    · exact AlertsMoved.refl _ s
  unfold State.retireAccount
  exact (((hleave.mono (by simp)).trans (State.setAccount_moved r _ _ _)).trans ((State.raise_moved .retire _).mono (by simp))).trans
    ((State.handDegraded_moved _).mono (by simp))

theorem State.retireAccount_retire (r : Replica) (reason : RetireReason) (s : State) :
    (s.retireAccount r reason).alerts.causes.get .retire = (s.alerts.causes.get .retire).event := by
  unfold State.retireAccount
  simp only
  rw [(State.handDegraded_moved _).others .retire (by simp), State.raise_get]
  split
  · exact congrArg CauseState.event ((State.suspectLeave_moved r s).others .retire (by simp))
  · rfl

theorem State.retireAccount_degraded (r : Replica) (reason : RetireReason) (s : State) :
    (s.retireAccount r reason).alerts.causes.get .degraded = (s.alerts.causes.get .degraded).setCondition true := by
  have hcount : (s.retireAccount r reason).votingCount < 3 :=
    State.votingCount_lt_three (r := r) (by rw [State.retireAccount_account]; rfl)
  have hhand (u : State) (hu : u.handDegraded.votingCount < 3) :
      u.handDegraded.alerts.causes.get .degraded = (u.alerts.causes.get .degraded).setCondition true := by
    rw [State.handDegraded, State.setCondition_get]
    exact congrArg (fun b => (u.alerts.causes.get .degraded).setCondition b) (decide_eq_true hu)
  refine (hhand _ hcount).trans (congrArg (CauseState.setCondition true) ?_)
  rw [(State.raise_moved .retire _).others .degraded (by simp)]
  split
  · exact (State.suspectLeave_moved r s).others .degraded (by simp)
  · rfl

theorem State.retireAccount_health_of_not_suspect {r : Replica} {s : State} (reason : RetireReason)
    (h : (s.account r).state ≠ .suspect) :
    (s.retireAccount r reason).alerts.causes.get (.health r) = s.alerts.causes.get (.health r) := by
  unfold State.retireAccount
  simp only
  rw [(State.handDegraded_moved _).others (.health r) (by simp), (State.raise_moved .retire _).others (.health r) (by simp),
    if_neg h]
  rfl

theorem State.retireCore_queueFull (r : Replica) (reason : RetireReason) (s : State) :
    (s.retireCore r reason).alerts.causes.queueFull =
      (s.alerts.causes.queueFull).setCondition ((s.retireCore r reason).queue.length == 32) := by
  have hbefore : ((s.retiring r reason).retirePort r).alerts.causes.get .queueFull = s.alerts.causes.get .queueFull := by
    rw [(State.retirePort_keeps r _).alerts (by decide)]
    exact (State.retireAccount_moved r reason s).others .queueFull (by simp)
  rw [State.retireCore_eq_retirePort]
  refine (State.setQueue_queueFull _ _).trans ?_
  exact congrArg (CauseState.setCondition _) hbefore

theorem State.retireCore_moved (r : Replica) (reason : RetireReason) (s : State) :
    AlertsMoved [.health r, .retire, .degraded, .queueFull] s (s.retireCore r reason) :=
  ((State.retireAccount_moved r reason s).mono (by simp)).trans
    ((State.retireCore_after_retireAccount r reason s).2.mono (by simp))

/-! ## The retirement and the copy in progress (R159) -/

theorem Tri.eq_of_count_eq_one {m : ReplicaSet} (h : m.count = 1) {q r : Replica} (hq : m.get q = true) (hr : m.get r = true) :
    q = r := by
  by_contra hne
  have htwo : 2 ≤ m.count := by
    cases q <;> cases r <;> simp_all [Tri.get, Tri.count]
  omega

theorem State.retireCore_copy_idle_iff (r : Replica) (reason : RetireReason) (s : State) :
    (s.retireCore r reason).copy.state = .idle ↔ s.copy.state = .idle := by
  rw [(State.retireCore_sameCopy r reason s).2]

theorem State.retire_of_idle {r : Replica} {s : State} (reason : RetireReason) (h : s.copy.state = .idle) :
    s.retire r reason = s.retireCore r reason := by
  unfold State.retire
  exact if_neg (by simp [(State.retireCore_copy_idle_iff r reason s).2 h])

/-- The last voting replica retires: nobody votes. -/
theorem State.retire_of_last {r : Replica} {s : State} (reason : RetireReason) (hvotes : (s.account r).votes = true)
    (hcount : s.votingCount = 1) (h : s.copy.state ≠ .idle) :
    s.retire r reason = (s.retireCore r reason).copyEnd .abortedSources := by
  have hempty : (s.retireCore r reason).voting.isEmpty = true := by
    by_contra hne
    obtain ⟨q, hq⟩ := (Tri.isEmpty_eq_false_iff _).1 (Bool.eq_false_iff.2 hne)
    rw [State.retireCore_voting, Bool.and_eq_true, decide_eq_true_eq] at hq
    exact hq.2 (Tri.eq_of_count_eq_one hcount hq.1 ((State.voting_get s r).trans hvotes))
  unfold State.retire
  exact if_pos (by simp [hempty, mt (State.retireCore_copy_idle_iff r reason s).1 h])

/-- Settles O48: the health monitor's part, then the port with its owners, the active repair, the queue and the copy engine. -/
theorem retirementReachesEveryBlock : Obligations.RetirementReachesEveryBlock := by
  unfold Obligations.RetirementReachesEveryBlock
  intro s r reason hvotes t inList
  have hhealth := State.retireCore_healthMoved r reason s
  have hkeeps : Keeps actionParts s t := State.retireCore_keeps r reason s
  have htable := State.retireCore_table r reason s
  obtain ⟨hreply, hrun⟩ := State.retireCore_registers r reason s
  have hcause {c : Cause} (hc : c ≠ .queueFull) := State.retireCore_cause hc r reason s
  refine ⟨State.retireCore_account_self r reason s, hhealth.others, hhealth.thresholds, hhealth.decayTimer, hhealth.decayInterval,
    State.retireCore_health_of_suspect reason, fun hhealthy => ?healthy, ?retire, ?degraded,
    State.retireCore_degraded_condition r reason s, State.retireCore_queueFull r reason s, State.retireCore_moved r reason s,
    fun hready => ?ready, fun hready => ?notReady, fun q hq => ?others, hreply, hrun, State.retireCore_requestsKept r reason s,
    htable.acceptOrder, htable.answerOrder, htable.channel, htable.holding, fun hwf e answers hout => ?engines, ?repair, ?queue,
    (State.retireCore_copy r reason s).eq, hkeeps.records (by decide), (State.retireCore_frame r reason s).regions (by decide), hkeeps.session (by decide),
    hkeeps.pins (by decide), hkeeps.freeIndex (by decide), hkeeps.pending (by decide), fun h => ?stays,
    State.retire_of_last reason hvotes⟩
  case healthy => exact (hcause (by simp)).trans (State.retireAccount_health_of_not_suspect reason (by rw [hhealthy]; decide))
  case retire => exact (hcause (c := .retire) (by simp)).trans (State.retireAccount_retire r reason s)
  case degraded => exact (hcause (c := .degraded) (by simp)).trans (State.retireAccount_degraded r reason s)
  case ready => rw [State.retireCore_port, if_pos ⟨rfl, hready⟩]; rfl
  case notReady => rw [State.retireCore_port, if_neg fun h => hready h.2]
  case others => rw [State.retireCore_port, if_neg fun h => hq h.1]
  case repair => exact (State.retireCore_repair r reason s).eq.trans (by rw [Repair.retire_eq])
  case queue =>
    rw [State.retireCore_queue, dropReplica_eq_filterMap]
    rfl
  case stays => exact h.elim (State.retire_eq_retireCore reason hvotes) (State.retire_of_idle reason)
  case engines =>
    have hheld : (s.lock e).held.isSome = true := by
      cases e with
      | repair => exact hwf.repairOp (by rw [show s.repair.op = _ from hout]; nofun)
      | copy => exact hwf.copyOp (by rw [show s.copy.op = _ from hout]; nofun)
      | scrub => exact hwf.scrubOp (by rw [show s.scrub.op = _ from hout]; nofun)
    obtain ⟨hlive, hnot⟩ := State.retireCore_awaits (r := r) reason ⟨hwf.one e hheld, hout⟩ (by rw [Repair.retire_eq])
    refine ⟨fun hin hpending => ?_, fun hn => ?_⟩
    · rw [(hlive hin.1 hin.2).2]
      exact congrArg OpStage.out (recordAnswer_of_pending hpending _)
    · by_cases hin : inList (.engine e)
      · rw [(hlive hin.1 hin.2).2]
        exact congrArg OpStage.out (recordAnswer_of_not_pending (hn.resolve_left fun h => h hin) _)
      · exact (hnot (not_and_or.1 hin)).2

/-! ## PORT_DEAD (R13, R100) -/

/-- The end of a copy changes no account but its target's. -/
theorem State.copyEnd_account_of_other {s : State} {q : Replica} (h : s.copy.kind ≠ .rebuild q) (o : CopyOutcome) :
    (s.copyEnd o).account q = s.account q := by
  cases hkind : s.copy.kind with
  | none => rw [State.copyEnd_account, State.copyHanded_of_none hkind, State.copyStopped_account]
  | fill n => exact congrArg (fun x => x.accounts.get q) (State.copyEnd_keeps_health_of_fill hkind o).2
  | rebuild r =>
    have hq : q ≠ r := fun hq => h (by rw [hkind, hq])
    by_cases ho : o = .completed
    · subst ho
      rw [State.copyEnd_account, State.copyHanded_of_completed hkind, (State.joinRebuilt_healthMoved _ _ _).others q hq,
        State.copyStopped_account]
    · rw [State.copyEnd_account_of_ended hkind ho, if_neg hq]

theorem Port.markGone_of_nil {p : Port} (h : p.list = []) (e : Engine) : p.markGone e = p := by
  unfold Port.markGone
  rw [h, List.map_nil, ← h]

/-- The end of a copy leaves an OFF port with an empty list as it is. -/
theorem State.copyEnd_port_of_off {s : State} {q : Replica} (hoff : (s.port q).state ≠ .ready) (hlist : (s.port q).list = [])
    (o : CopyOutcome) : (s.copyEnd o).port q = s.port q := by
  rw [State.copyEnd_port, if_neg fun h => hoff h.2.2]
  exact Port.markGone_of_nil hlist .copy

/-- The retirement of a replica whose port is not READY leaves the copy engine as it is. -/
theorem State.retireCore_copy_of_not_ready {r : Replica} {s : State} (h : (s.port r).state ≠ .ready) (reason : RetireReason) :
    (s.retireCore r reason).copy = s.copy := by
  have hport : (s.retiring r reason).port r = s.port r := (s.retiring_keeps r reason).port (by decide) r
  rw [State.retireCore_eq_retirePort, (State.retireFromQueue_keeps r _).copy (by decide),
    State.retirePort_of_not_ready (by rwa [hport]), (s.retiring_keeps r reason).copy (by decide)]

theorem exec_portDead_of_due {s : State} {r : Replica} (hstate : (s.port r).state = .aborting)
    (hdue : (s.port r).abortLimit = some 0) : exec (.portDead r) s = .next ((s.portOff r).declareDead r).settle := by
  change execPortDead r s = _
  unfold execPortDead
  rw [hstate, hdue]
  rfl

theorem State.declareDead_of_votes {r : Replica} {s : State} (h : (s.account r).votes = true) :
    s.declareDead r = s.retire r .portDead := by
  unfold State.declareDead
  rcases (Account.votes_iff _).1 h with h | h <;> rw [h]

theorem State.declareDead_of_rebuilding {r : Replica} {s : State} (h : (s.account r).state = .rebuilding) :
    s.declareDead r = s.targetFailure r := by
  unfold State.declareDead
  rw [h]

theorem State.declareDead_of_retired {r : Replica} {s : State} (h : (s.account r).state = .retired) : s.declareDead r = s := by
  unfold State.declareDead
  rw [h]

/-- What the death of a replica does at a port that is OFF and empty: nothing. -/
theorem State.declareDead_port {r : Replica} {s : State} (hoff : (s.port r).state = .off) (hlist : (s.port r).list = []) :
    (s.declareDead r).port r = s.port r := by
  have hne : (s.port r).state ≠ .ready := by rw [hoff]; decide
  cases hstate : (s.account r).state with
  | retired => rw [State.declareDead_of_retired hstate]
  | rebuilding =>
    rw [State.declareDead_of_rebuilding hstate, State.targetFailure]
    split
    · exact State.copyEnd_port_of_off hne hlist _
    · rfl
  | healthy | suspect =>
    have hcore : (s.retireCore r .portDead).port r = s.port r := by rw [State.retireCore_port, if_neg fun h => hne h.2]
    rw [State.declareDead_of_votes ((Account.votes_iff _).2 (by simp [hstate])), State.retire]
    split
    · rw [State.copyEnd_port_of_off (by rwa [hcore]) (by rwa [hcore]), hcore]
    · exact hcore

/-- With no copy of it in progress, a replica's account is not the end of a copy's. -/
theorem State.RebuildWf.kind_ne {s : State} (h : s.RebuildWf) {r : Replica} (hvotes : (s.account r).votes = true)
    (hcopy : s.copy.state ≠ .idle) : s.copy.kind ≠ .rebuild r := fun hkind => by
  have htarget : s.rebuildTarget = some r := by
    unfold State.rebuildTarget
    rw [hkind]
    cases hstate : s.copy.state <;> first | rfl | exact absurd hstate hcopy
  have hrebuilding := (h r).2 htarget
  simp [Account.votes, hrebuilding] at hvotes

/-- Settles O35: the port is OFF, and what follows is the account's: a retirement, the end of the rebuild, or nothing. -/
theorem deadPortRetiresItsReplica : Obligations.DeadPortRetiresItsReplica := by
  unfold Obligations.DeadPortRetiresItsReplica
  intro s r hstate hdue
  have hport : (s.portOff r).port r = { s.port r with state := .off, list := [], abortLimit := none, abort := false } :=
    State.port_setPort_self r _ s
  have hoff : ((s.portOff r).port r).state ≠ .ready := by rw [hport]; nofun
  refine ⟨s.portOff r, (s.portOff r).declareDead r, exec_portDead_of_due hstate hdue, rfl,
    State.declareDead_port (by rw [hport]) (by rw [hport]),
    fun hvotes => ?votes, fun hrebuilding hwf => ?rebuilding,
    fun hretired => State.declareDead_of_retired (s := s.portOff r) hretired⟩
  case votes =>
    have hretire : (s.portOff r).declareDead r = (s.portOff r).retire r .portDead := State.declareDead_of_votes hvotes
    have hlast (hcount : s.votingCount = 1) (hcopy : s.copy.state ≠ .idle) :=
      State.retire_of_last (s := s.portOff r) .portDead hvotes hcount hcopy
    have hstays (h : s.votingCount ≠ 1 ∨ s.copy.state = .idle) :
        (s.portOff r).retire r .portDead = (s.portOff r).retireCore r .portDead :=
      h.elim (State.retire_eq_retireCore (s := s.portOff r) .portDead hvotes) (State.retire_of_idle (s := s.portOff r) .portDead)
    have hself : ((s.portOff r).retireCore r .portDead).account r = { s.account r with state := .retired, reason := .portDead } :=
      State.retireCore_account_self r .portDead (s.portOff r)
    have hothers (q : Replica) (hq : q ≠ r) : ((s.portOff r).retireCore r .portDead).account q = s.account q :=
      (State.retireCore_healthMoved r .portDead (s.portOff r)).others q hq
    have hcopy : ((s.portOff r).retireCore r .portDead).copy = s.copy := State.retireCore_copy_of_not_ready hoff .portDead
    rw [hretire]
    refine ⟨rfl, fun hwf => ?_, fun h _ => ?_, fun hcount hbusy => ?_⟩
    · by_cases h : s.votingCount ≠ 1 ∨ s.copy.state = .idle
      · rw [hstays h, hself]
      · rw [not_or, not_not] at h
        rw [hlast h.1 h.2, State.copyEnd_account_of_other (by rw [hcopy]; exact hwf.kind_ne hvotes h.2), hself]
    · rw [hstays h]
      exact ⟨hcopy, hothers⟩
    · rw [hlast hcount hbusy, (State.copyEnd_stands _ _).copy, hcopy]
      refine ⟨rfl, rfl, rfl, rfl, rfl, rfl, rfl, fun q hkind hq => ?_⟩
      rw [State.copyEnd_account_of_ended (by rw [hcopy, hkind]) (by decide), if_pos rfl, hothers q hq]
  case rebuilding =>
    have htarget : (s.portOff r).rebuildTarget = some r := (hwf r).1 hrebuilding
    have hend : (s.portOff r).declareDead r = (s.portOff r).copyEnd .abortedTarget :=
      (State.declareDead_of_rebuilding (s := s.portOff r) hrebuilding).trans (if_pos htarget)
    have haccount := State.copyEnd_account_of_ended (s := s.portOff r) (State.kind_of_rebuildTarget htarget)
      (o := .abortedTarget) (by decide)
    rw [hend]
    exact ⟨rfl, (haccount r).trans (if_pos rfl), fun q hq => (haccount q).trans (if_neg hq), (State.copyEnd_stands _ _).copy⟩

end Sys2Proof.Machine
end

section
/-! The seat of an engine: its lock, its op, its phase, and its entries in the issue lists. The two invariants of the engines are
statements about seats, and each operation on locks and lists moves one or two of them. -/

namespace Sys2Proof.Machine

open Sys2Proof

/-! ## Seats -/

/-- What locks, phases and issue lists hold of one engine: of each entry, its block and whether its owner is gone. -/
structure Seat where
  lock     : EngineLock
  op       : OpStage
  block    : Nat
  claiming : Bool
  working  : Bool
  tags     : Replica → List (Nat × Bool)

/-- An engine is in its claiming phase. -/
def State.claimingPhase (s : State) : Engine → Bool
  | .repair => s.repair.phase == .claim
  | .copy => s.copy.state == .running && s.copy.step == .claim
  | .scrub => s.scrub.state == .claiming

/-- An engine is in one of its working phases. -/
def State.workingPhase (s : State) : Engine → Bool
  | .repair => s.repair.phase == .read || s.repair.phase == .write || s.repair.phase == .verify
  | .copy => s.copy.state == .running && (s.copy.step == .read || s.copy.step == .write)
  | .scrub => s.scrub.state == .reading

/-- The entries of an engine in a list, each as its block and whether its owner is gone. -/
def engineTags (e : Engine) (l : List IssueEntry) : List (Nat × Bool) :=
  (l.filter fun x => x.op.owner == .engine e).map fun x => (x.op.block, x.ownerGone)

def State.seat (s : State) (e : Engine) : Seat where
  lock := s.lock e
  op := s.engineOp e
  block := s.workBlock e
  claiming := s.claimingPhase e
  working := s.workingPhase e
  tags := fun r => engineTags e (s.port r).list

theorem mem_engineTags {e : Engine} {l : List IssueEntry} {p : Nat × Bool} :
    p ∈ engineTags e l ↔ ∃ x ∈ l, x.op.owner = .engine e ∧ (x.op.block, x.ownerGone) = p := by
  simp [engineTags, and_assoc]

theorem State.opsRemain_iff (s : State) (e : Engine) (b : Nat) : s.OpsRemain e b ↔ ∃ r g, (b, g) ∈ (s.seat e).tags r := by
  constructor
  · rintro ⟨r, x, hx, ho, hb⟩
    exact ⟨r, x.ownerGone, mem_engineTags.2 ⟨x, hx, ho, by rw [hb]⟩⟩
  · rintro ⟨r, g, hg⟩
    obtain ⟨x, hx, ho, heq⟩ := mem_engineTags.1 hg
    exact ⟨r, x, hx, ho, congrArg Prod.fst heq⟩

/-- What the lock set asks of one engine (R39, R103): it claims or holds in the phases that do so, and has an op only under its lock. -/
structure Seat.Wf (x : Seat) : Prop where
  one : x.lock.held.isSome = true → x.lock.claim = none
  claiming : x.lock.claim.isSome = true → x.claiming = true
  working : x.lock.held.isSome = true → x.working = true
  op : x.op ≠ .none → x.lock.held.isSome = true

/-- What its entries have to do with its lock and its op (R42, R91). A draining hold whose last entry has just left a list is owed to
the report of that entry. -/
structure Seat.Holds (owed : Nat → Prop) (x : Seat) : Prop where
  block : ∀ b, x.lock.held = some b ∨ x.lock.claim = some b → b = x.block
  live : ∀ r b, (b, false) ∈ x.tags r → x.lock.held = some b ∧ ∃ answers, x.op = .out answers ∧ answers.get r = some .pending
  gone : ∀ r b, (b, true) ∈ x.tags r → x.lock.draining = some b
  alike : ∀ r q p p', p ∈ x.tags r → p' ∈ x.tags q → p.2 = p'.2
  single : ∀ r, (x.tags r).length ≤ 1
  drains : ∀ b, x.lock.draining = some b → (∃ r g, (b, g) ∈ x.tags r) ∨ owed b

/-- An engine about to release its lock: its entries are all marked owner gone, for the block it holds or for that of its draining
hold, and all for one block. -/
structure Seat.Leaves (owed : Nat → Prop) (x : Seat) : Prop where
  gone : ∀ r p, p ∈ x.tags r → p.2 = true ∧ (x.lock.held = some p.1 ∨ x.lock.draining = some p.1)
  alike : ∀ r q p p', p ∈ x.tags r → p' ∈ x.tags q → p.1 = p'.1
  single : ∀ r, (x.tags r).length ≤ 1
  drains : ∀ b, x.lock.draining = some b → (∃ r g, (b, g) ∈ x.tags r) ∨ owed b

/-- No entry of the engine is live. -/
def Seat.AllGone (x : Seat) : Prop := ∀ r b, (b, false) ∉ x.tags r

theorem Seat.Holds.allGone {owed : Nat → Prop} {x : Seat} (h : x.Holds owed) (hheld : x.lock.held = none) : x.AllGone :=
  fun r b hb => nomatch hheld.symm.trans (h.live r b hb).1

theorem Seat.Holds.leaves {owed : Nat → Prop} {x : Seat} (h : x.Holds owed) (hgone : x.AllGone) : x.Leaves owed where
  gone := fun r p hp => by
    obtain ⟨b, g⟩ := p
    cases g with
    | false => exact absurd hp (hgone r b)
    | true => exact ⟨rfl, .inr (h.gone r b hp)⟩
  alike := fun r q p p' hp hp' => by
    obtain ⟨b, g⟩ := p
    obtain ⟨b', g'⟩ := p'
    cases g with
    | false => exact absurd hp (hgone r b)
    | true =>
      cases g' with
      | false => exact absurd hp' (hgone q b')
      | true => exact Option.some.inj ((h.gone r b hp).symm.trans (h.gone q b' hp'))
  single := h.single
  drains := h.drains

/-- An engine whose entries were marked just now leaves: they were all live, for the block it holds, or all gone already. -/
theorem Seat.Holds.leaves_marked {owed : Nat → Prop} {x : Seat} (h : x.Holds owed) {y : Seat} (hheld : y.lock.held = x.lock.held)
    (hdraining : y.lock.draining = x.lock.draining) (htags : ∀ r, y.tags r = (x.tags r).map fun p => (p.1, true)) :
    y.Leaves owed := by
  have hmem {r : Replica} {p : Nat × Bool} : p ∈ y.tags r ↔ p.2 = true ∧ ∃ g, (p.1, g) ∈ x.tags r := by
    rw [htags, List.mem_map]
    constructor
    · rintro ⟨a, ha, rfl⟩; exact ⟨rfl, a.2, ha⟩
    · rintro ⟨h2, g, hg⟩; exact ⟨_, hg, Prod.ext rfl h2.symm⟩
  have hblock {r : Replica} {b : Nat} {g : Bool} (hb : (b, g) ∈ x.tags r) :
      if g then x.lock.draining = some b else x.lock.held = some b := by
    cases g with
    | false => exact (h.live r b hb).1
    | true => exact h.gone r b hb
  refine ⟨fun r p hp => ?_, fun r q p p' hp hp' => ?_, fun r => by rw [htags, List.length_map]; exact h.single r, fun b hb => ?_⟩
  · obtain ⟨h2, g, hg⟩ := hmem.1 hp
    rw [hheld, hdraining]
    have := hblock hg
    cases g with
    | false => exact ⟨h2, .inl this⟩
    | true => exact ⟨h2, .inr this⟩
  · obtain ⟨-, g, hg⟩ := hmem.1 hp
    obtain ⟨-, g', hg'⟩ := hmem.1 hp'
    obtain rfl : g = g' := h.alike r q _ _ hg hg'
    have hp1 := hblock hg
    have hp1' := hblock hg'
    cases g with
    | false => exact Option.some.inj (hp1.symm.trans hp1')
    | true => exact Option.some.inj (hp1.symm.trans hp1')
  · rw [hdraining] at hb
    refine (h.drains b hb).imp_left ?_
    rintro ⟨r, g, hg⟩
    exact ⟨r, true, hmem.2 ⟨rfl, g, hg⟩⟩

/-- An engine that has left and holds nothing. -/
theorem Seat.Leaves.holds {owed : Nat → Prop} {x : Seat} (h : x.Leaves owed) (hheld : x.lock.held = none)
    (hclaim : x.lock.claim = none) : x.Holds owed where
  block := fun b hb => by simp [hheld, hclaim] at hb
  live := fun r b hb => absurd (h.gone r _ hb).1 (by simp)
  gone := fun r b hb => (h.gone r _ hb).2.resolve_left (by simp [hheld])
  alike := fun r q p p' hp hp' => (h.gone r p hp).1.trans (h.gone q p' hp').1.symm
  single := h.single
  drains := h.drains

/-! ## The engines together -/

/-- How much is asked of the engines beside their lock set: what HoldsWf says, and that the list of a port that is not READY is empty. -/
structure Scope where
  entries : Prop
  ports   : Prop

/-- The engines and their locks. `out` is the engine that is about to release its lock, if one is; `owed` holds of the draining
holds whose last entry has just left; `full` says what is asked beside the lock set. -/
structure State.Sound (out : Option Engine) (owed : Engine → Nat → Prop) (full : Scope) (s : State) : Prop where
  apart : ∀ e e' b, e ≠ e' → (s.lock e).held = some b → (s.lock e').held ≠ some b
  scrubBlock : ∀ b, (s.lock .scrub).claim = some b → (∀ e, e ≠ .scrub → (s.lock e).held ≠ some b) ∧ ¬s.Drains b
  seat : ∀ e, out ≠ some e → (s.seat e).Wf
  unclaimed : ∀ e, out = some e → (s.lock e).claim = none
  undrained : full.entries → ∀ e b, (s.lock e).held = some b → ¬s.Drains b
  holds : full.entries → ∀ e, out ≠ some e → (s.seat e).Holds (owed e)
  leaves : full.entries → ∀ e, out = some e → (s.seat e).Leaves (owed e)
  empty : full.ports → ∀ r, (s.port r).state ≠ .ready → (s.port r).list = []

/-- Nothing is owed. -/
def nothingOwed : Engine → Nat → Prop := fun _ _ => False

/-- The engines and their locks between two operations. -/
abbrev State.Steady (full : Scope) (s : State) : Prop := s.Sound none nothingOwed full

theorem State.lock_eq_of_seat {s t : State} {e : Engine} (h : t.seat e = s.seat e) : t.lock e = s.lock e := congrArg Seat.lock h

section Transfer

variable {out : Option Engine} {owed : Engine → Nat → Prop} {full : Scope} {s t : State}

/-- The lock set's part of it, where locks and draining holds only go. -/
theorem State.Sound.of_fewer_locks (h : s.Sound out owed full) (hheld : ∀ e b, (t.lock e).held = some b → (s.lock e).held = some b)
    (hclaim : ∀ b, (t.lock .scrub).claim = some b → (s.lock .scrub).claim = some b)
    (hdrains : ∀ e b, (t.lock e).draining = some b → (s.lock e).draining = some b) :
    (∀ e e' b, e ≠ e' → (t.lock e).held = some b → (t.lock e').held ≠ some b)
      ∧ (∀ b, (t.lock .scrub).claim = some b → (∀ e, e ≠ .scrub → (t.lock e).held ≠ some b) ∧ ¬t.Drains b)
      ∧ (full.entries → ∀ e b, (t.lock e).held = some b → ¬t.Drains b) := by
  have hfree {b : Nat} (hn : ¬s.Drains b) : ¬t.Drains b := fun ⟨e, he⟩ => hn ⟨e, hdrains e b he⟩
  refine ⟨fun e e' b he hb hb' => h.apart e e' b he (hheld e b hb) (hheld e' b hb'), fun b hb => ?_, fun hf e b hb => ?_⟩
  · obtain ⟨hothers, hn⟩ := h.scrubBlock b (hclaim b hb)
    exact ⟨fun e he hb' => hothers e he (hheld e b hb'), hfree hn⟩
  · exact hfree (h.undrained hf e b (hheld e b hb))

/-- An operation that moves no seat but one, whose lock it leaves. -/
theorem State.Sound.move (e : Engine) (h : s.Sound out owed full) (hlock : t.lock e = s.lock e)
    (hothers : ∀ e', e' ≠ e → t.seat e' = s.seat e') (hwf : out ≠ some e → (t.seat e).Wf)
    (hholds : full.entries → out ≠ some e → (t.seat e).Holds (owed e)) (hleaves : full.entries → out = some e → (t.seat e).Leaves (owed e))
    (hempty : full.ports → ∀ r, (t.port r).state ≠ .ready → (t.port r).list = []) : t.Sound out owed full := by
  have hlocks (e' : Engine) : t.lock e' = s.lock e' := by
    by_cases he : e' = e
    · rw [he, hlock]
    · exact State.lock_eq_of_seat (hothers e' he)
  obtain ⟨hapart, hscrub, hundrained⟩ := h.of_fewer_locks (t := t) (fun e' b => by rw [hlocks]; exact id)
    (fun b => by rw [hlocks]; exact id) (fun e' b => by rw [hlocks]; exact id)
  refine ⟨hapart, hscrub, fun e' hn => ?_, fun e' ho => by rw [hlocks]; exact h.unclaimed e' ho, hundrained,
    fun hf e' hn => ?_, fun hf e' ho => ?_, hempty⟩ <;> by_cases he : e' = e
  · exact he ▸ hwf (he ▸ hn)
  · rw [hothers e' he]; exact h.seat e' hn
  · exact he ▸ hholds hf (he ▸ hn)
  · rw [hothers e' he]; exact h.holds hf e' hn
  · exact he ▸ hleaves hf (he ▸ ho)
  · rw [hothers e' he]; exact h.leaves hf e' ho

/-- An operation that moves no seat. -/
theorem State.Sound.of_seats (h : s.Sound out owed full) (hseats : ∀ e, t.seat e = s.seat e)
    (hempty : full.ports → ∀ r, (t.port r).state ≠ .ready → (t.port r).list = []) : t.Sound out owed full :=
  h.move .repair (State.lock_eq_of_seat (hseats _)) (fun e' _ => hseats e') (fun hn => by rw [hseats]; exact h.seat _ hn)
    (fun hf hn => by rw [hseats]; exact h.holds hf _ hn) (fun hf ho => by rw [hseats]; exact h.leaves hf _ ho) hempty

theorem State.Sound.empty_of_ports (h : s.Sound out owed full) (hports : ∀ r, t.port r = s.port r) (hf : full.ports) (r : Replica) :
    (t.port r).state ≠ .ready → (t.port r).list = [] := by
  rw [hports]
  exact h.empty hf r

end Transfer

theorem State.seat_eq {s : State} {e : Engine} {x : Seat} (hlock : s.lock e = x.lock) (hop : s.engineOp e = x.op)
    (hblock : s.workBlock e = x.block) (hclaiming : s.claimingPhase e = x.claiming) (hworking : s.workingPhase e = x.working)
    (htags : ∀ r, engineTags e (s.port r).list = x.tags r) : s.seat e = x := by
  cases x
  exact Seat.mk.injEq .. ▸ ⟨hlock, hop, hblock, hclaiming, hworking, funext htags⟩

theorem State.tags_congr {s t : State} (e : Engine) {r : Replica} (h : t.port r = s.port r) :
    engineTags e (t.port r).list = engineTags e (s.port r).list := by rw [h]

theorem State.seat_congr {s t : State} {e : Engine} (hlock : t.lock e = s.lock e) (hports : ∀ r, t.port r = s.port r)
    (hrepair : t.repair = s.repair) (hcopy : t.copy = s.copy) (hscrub : t.scrub = s.scrub) : t.seat e = s.seat e := by
  refine State.seat_eq hlock ?_ ?_ ?_ ?_ fun r => State.tags_congr e (hports r)
  all_goals
    cases e <;> simp only [State.seat, State.engineOp, State.workBlock, State.claimingPhase, State.workingPhase, hrepair, hcopy, hscrub]

theorem Keeps.seat {L : List Part} {s t : State} (h : Keeps L s t) (hrt : Part.rt ∉ L) (hports : Part.ports ∉ L)
    (hrepair : Part.repair ∉ L) (hcopy : Part.copy ∉ L) (hscrub : Part.scrub ∉ L) (e : Engine) : t.seat e = s.seat e :=
  State.seat_congr (h.lock hrt e) (h.port hports) (h.repair hrepair) (h.copy hcopy) (h.scrub hscrub)

theorem steady_ignores (full : Scope) : Ignores outsideSide (State.Steady full) := fun _ _ hk hs =>
  hs.of_seats (hk.seat (by decide) (by decide) (by decide) (by decide) (by decide)) (hs.empty_of_ports (hk.port (by decide)))

/-! ## Freed blocks -/

/-- The seat of a granted engine (R39). -/
def Seat.granted (b : Nat) (o : OpStage) (x : Seat) : Seat :=
  { x with lock := { x.lock with held := some b, claim := none }, op := o, claiming := false, working := true }

/-- The seat of the walker whose claim is refused (R41, R136). -/
def Seat.refused (pointer : Nat) (x : Seat) : Seat :=
  { x with lock := { x.lock with claim := none }, op := .none, block := pointer, claiming := false, working := false }

theorem Seat.granted_wf (x : Seat) (b : Nat) (o : OpStage) : (x.granted b o).Wf :=
  ⟨fun _ => rfl, nofun, fun _ => rfl, fun _ => rfl⟩

theorem Seat.Holds.granted {owed : Nat → Prop} {x : Seat} (h : x.Holds owed) {b : Nat} (hheld : x.lock.held = none)
    (hclaim : x.lock.claim = some b) (o : OpStage) : (x.granted b o).Holds owed where
  block := fun b' hb => by
    have hb' : b = b' := by simpa [Seat.granted] using hb
    exact hb' ▸ h.block b (.inr hclaim)
  live := fun r b' hb => absurd hb (h.allGone hheld r b')
  gone := h.gone
  alike := h.alike
  single := h.single
  drains := h.drains

theorem Seat.Wf.held_of_claim {x : Seat} (h : x.Wf) {b : Nat} (hclaim : x.lock.claim = some b) : x.lock.held = none := by
  cases hheld : x.lock.held with
  | none => rfl
  | some b' => rw [h.one (by rw [hheld]; rfl)] at hclaim; cases hclaim

theorem Seat.Wf.refused {x : Seat} (hheld : x.lock.held = none) (n : Nat) : (x.refused n).Wf :=
  ⟨fun _ => rfl, nofun, fun hn => by simp [Seat.refused, hheld] at hn, fun hn => absurd rfl hn⟩

theorem Seat.Holds.refused {owed : Nat → Prop} {x : Seat} (h : x.Holds owed) (hheld : x.lock.held = none) (n : Nat) :
    (x.refused n).Holds owed where
  block := fun b hb => by simp [Seat.refused, hheld] at hb
  live := fun r b hb => absurd hb (h.allGone hheld r b)
  gone := h.gone
  alike := h.alike
  single := h.single
  drains := h.drains

theorem Scrub.endVisit_phase (w : Scrub) (n : Nat) :
    ((w.endVisit n).state == .claiming) = false ∧ ((w.endVisit n).state == .reading) = false := by
  simp only [Scrub.endVisit]
  constructor <;> split <;> rfl

theorem State.skipScrub_seat (s : State) (e : Engine) :
    s.skipScrub.seat e = if e = .scrub then (s.seat .scrub).refused s.skipScrub.scrub.pointer else s.seat e := by
  have hlock := State.skipScrub_lock e s
  split
  · rename_i he
    subst he
    obtain ⟨hclaiming, hworking⟩ := Scrub.endVisit_phase s.scrub (s.spanBlocks - 1)
    exact State.seat_eq (hlock.trans (if_pos rfl)) rfl rfl hclaiming hworking fun _ => rfl
  · rename_i he
    cases e with
    | scrub => exact absurd rfl he
    | repair => exact State.seat_eq (hlock.trans (if_neg he)) rfl rfl rfl rfl fun _ => rfl
    | copy => exact State.seat_eq (hlock.trans (if_neg he)) rfl rfl rfl rfl fun _ => rfl

theorem State.grantClaim_port (e : Engine) (b : Nat) (s : State) (r : Replica) : (s.grantClaim e b).port r = s.port r :=
  (State.grantClaim_keeps e b s).port (by decide) r

/-- The seat of the granted engine. -/
theorem State.grantClaim_seat_self {e : Engine} {s : State} (hphase : s.claimingPhase e = true) (b : Nat) :
    (s.grantClaim e b).seat e = (s.seat e).granted b ((s.grantClaim e b).engineOp e) := by
  have hrest : (s.grantClaim e b).workBlock e = s.workBlock e ∧ (s.grantClaim e b).claimingPhase e = false
      ∧ (s.grantClaim e b).workingPhase e = true := by
    cases e with
    | repair => simp only [State.workBlock, State.claimingPhase, State.workingPhase, State.grantClaim_repair]; exact ⟨trivial, rfl, rfl⟩
    | scrub => simp only [State.workBlock, State.claimingPhase, State.workingPhase, State.grantClaim_scrub_self]; exact ⟨trivial, rfl, rfl⟩
    | copy =>
      simp only [State.claimingPhase, Bool.and_eq_true, beq_iff_eq] at hphase
      simp only [State.workBlock, State.claimingPhase, State.workingPhase, State.grantClaim_copy, State.engineGranted]
      split <;> simp [hphase.1]
  obtain ⟨hblock, hclaiming, hworking⟩ := hrest
  exact State.seat_eq (State.grantClaim_lock_self e b s) rfl hblock hclaiming hworking fun r =>
    State.tags_congr e (State.grantClaim_port e b s r)

theorem State.grantClaim_seat_other {e e' : Engine} {b : Nat} {s : State} (he : e' ≠ e)
    (hscrub : e' = .scrub → (s.lock .scrub).claim ≠ some b) : (s.grantClaim e b).seat e' = s.seat e' := by
  have hlock : (s.grantClaim e b).lock e' = s.lock e' := by
    rw [State.grantClaim_lock, if_neg he, if_neg fun hn => hscrub hn.1 hn.2]
  refine State.seat_eq hlock ?_ ?_ ?_ ?_ fun r => State.tags_congr e' (State.grantClaim_port e b s r)
  all_goals
    simp only [State.seat]
    cases e' with
    | repair => simp only [State.engineOp, State.workBlock, State.claimingPhase, State.workingPhase, State.grantClaim_repair_of_ne he.symm]
    | copy => simp only [State.engineOp, State.workBlock, State.claimingPhase, State.workingPhase, State.grantClaim_copy_of_ne he.symm]
    | scrub =>
      have hw : (s.grantClaim e b).scrub = s.scrub := (State.grantClaim_scrub_of_ne he.symm b s).trans (if_neg (hscrub rfl))
      simp only [State.engineOp, State.workBlock, State.claimingPhase, State.workingPhase, hw]

theorem State.grantClaim_seat_refused {e : Engine} {b : Nat} {s : State} (he : e ≠ .scrub)
    (hscrub : (s.lock .scrub).claim = some b) :
    (s.grantClaim e b).seat .scrub = (s.seat .scrub).refused (s.grantClaim e b).scrub.pointer := by
  have hlock : (s.grantClaim e b).lock .scrub = { s.lock .scrub with claim := none } := by
    rw [State.grantClaim_lock, if_neg he.symm, if_pos ⟨rfl, hscrub⟩]
  have hw : (s.grantClaim e b).scrub = s.scrub.endVisit (s.spanBlocks - 1) :=
    (State.grantClaim_scrub_of_ne he b s).trans (if_pos hscrub)
  obtain ⟨hclaiming, hworking⟩ := Scrub.endVisit_phase s.scrub (s.spanBlocks - 1)
  exact State.seat_eq hlock (congrArg Scrub.op hw) rfl (by rw [State.claimingPhase, hw]; exact hclaiming)
    (by rw [State.workingPhase, hw]; exact hworking) fun r => State.tags_congr .scrub (State.grantClaim_port e b s r)

section Frees

variable {out : Option Engine} {owed : Engine → Nat → Prop} {full : Scope}

/-- A pending claim that is free is granted. -/
theorem State.Sound.grant {e : Engine} {b : Nat} {s : State} (hclaim : (s.lock e).claim = some b) (hfree : s.ClaimFree e b)
    (h : s.Sound out owed full) : (s.grantClaim e b).Sound out owed full := by
  have hout : out ≠ some e := fun ho => by rw [h.unclaimed e ho] at hclaim; cases hclaim
  have hwf := h.seat e hout
  have hheldNone : (s.lock e).held = none := hwf.held_of_claim hclaim
  have hself := State.grantClaim_seat_self (hwf.claiming (by rw [show (s.seat e).lock.claim = _ from hclaim]; rfl)) b
  obtain ⟨-, hothersFree, hdrainFree⟩ := hfree
  have hheld {e' : Engine} {b' : Nat} (hb : ((s.grantClaim e b).lock e').held = some b') :
      (e' = e ∧ b' = b) ∨ (e' ≠ e ∧ (s.lock e').held = some b') := by
    rw [State.grantClaim_lock] at hb
    split_ifs at hb with h1 h2
    · exact .inl ⟨h1, (Option.some.inj hb).symm⟩
    · exact .inr ⟨h1, h2.1 ▸ hb⟩
    · exact .inr ⟨h1, hb⟩
  have hdrains {b' : Nat} (hd : (s.grantClaim e b).Drains b') : s.Drains b' := by
    obtain ⟨e', he'⟩ := hd
    rw [State.grantClaim_lock] at he'
    split_ifs at he' with h1 h2
    · exact ⟨e, he'⟩
    · exact ⟨.scrub, he'⟩
    · exact ⟨e', he'⟩
  have hseat (e' : Engine) (he' : e' ≠ e) : (s.grantClaim e b).seat e' = s.seat e'
      ∨ e' = .scrub ∧ (s.lock .scrub).claim = some b ∧ ∃ n, (s.grantClaim e b).seat e' = (s.seat .scrub).refused n := by
    by_cases hr : e' = .scrub ∧ (s.lock .scrub).claim = some b
    · obtain ⟨rfl, hr⟩ := hr
      exact .inr ⟨rfl, hr, _, State.grantClaim_seat_refused he'.symm hr⟩
    · exact .inl (State.grantClaim_seat_other he' fun h1 h2 => hr ⟨h1, h2⟩)
  refine ⟨fun e₁ e₂ b' hne h1 h2 => ?apart, fun b' hb' => ?scrubBlock, fun e' hn => ?seat, fun e' ho => ?unclaimed,
    fun hf e' b' hb' hd => ?undrained, fun hf e' hn => ?holds, fun hf e' ho => ?leaves,
    h.empty_of_ports (State.grantClaim_port e b s)⟩
  case apart =>
    rcases hheld h1 with ⟨he1, hb1⟩ | ⟨hn1, h1⟩ <;> rcases hheld h2 with ⟨he2, hb2⟩ | ⟨hn2, h2⟩
    · exact hne (he1.trans he2.symm)
    · exact hothersFree ⟨e₂, hn2, hb1 ▸ h2⟩
    · exact hothersFree ⟨e₁, hn1, hb2 ▸ h1⟩
    · exact h.apart e₁ e₂ b' hne h1 h2
  case scrubBlock =>
    have hpending : (s.lock .scrub).claim = some b' ∧ e ≠ .scrub ∧ b' ≠ b := by
      rw [State.grantClaim_lock] at hb'
      split_ifs at hb' with h1 h2
      refine ⟨hb', fun he => h1 he.symm, ?_⟩
      rintro rfl
      exact h2 ⟨rfl, hb'⟩
    obtain ⟨hp, he, hne⟩ := hpending
    obtain ⟨hothers, hnd⟩ := h.scrubBlock b' hp
    refine ⟨fun e' he' hb => ?_, fun hd => hnd (hdrains hd)⟩
    rcases hheld hb with ⟨-, rfl⟩ | ⟨-, hb⟩
    · exact hne rfl
    · exact hothers e' he' hb
  case seat =>
    by_cases he : e' = e
    · rw [he, hself]; exact Seat.granted_wf _ b _
    · rcases hseat e' he with hs | ⟨rfl, hr, n, hs⟩ <;> rw [hs]
      · exact h.seat e' hn
      · exact Seat.Wf.refused ((h.seat .scrub hn).held_of_claim hr) n
  case unclaimed => exact State.grantClaim_claim (h.unclaimed e' ho)
  case undrained =>
    rcases hheld hb' with ⟨rfl, rfl⟩ | ⟨-, hb'⟩
    · exact hdrainFree (hdrains hd)
    · exact h.undrained hf e' b' hb' (hdrains hd)
  case holds =>
    by_cases he : e' = e
    · rw [he, hself]; exact (h.holds hf e hout).granted hheldNone hclaim _
    · rcases hseat e' he with hs | ⟨rfl, hr, n, hs⟩ <;> rw [hs]
      · exact h.holds hf e' hn
      · exact (h.holds hf .scrub hn).refused ((h.seat .scrub hn).held_of_claim hr) n
  case leaves =>
    have he : e' ≠ e := fun he => hout (he ▸ ho)
    rcases hseat e' he with hs | ⟨rfl, hr, n, hs⟩
    · rw [hs]; exact h.leaves hf e' ho
    · rw [h.unclaimed .scrub ho] at hr; cases hr

theorem State.setLock_seat (e e' : Engine) (x : EngineLock) (s : State) :
    (s.setLock e x).seat e' = if e' = e then { s.seat e with lock := x } else s.seat e' := by
  have hlock := State.lock_setLock e e' x s
  split
  · rename_i he
    subst he
    rw [if_pos rfl] at hlock
    cases e' <;> exact State.seat_eq hlock rfl rfl rfl rfl fun _ => rfl
  · rename_i he
    rw [if_neg he] at hlock
    cases e' <;> exact State.seat_eq hlock rfl rfl rfl rfl fun _ => rfl

/-- The last entry of a draining hold has left: the hold ends, and it is owed no more (R42). -/
theorem State.Sound.undrain {owed' : Engine → Nat → Prop} {e : Engine} {b : Nat} {s : State} (h : s.Sound out owed full)
    (hdraining : (s.lock e).draining = some b) (hlast : ¬s.OpsRemain e b)
    (howed : ∀ e' b', e' ≠ e → owed e' b' → owed' e' b') :
    (s.setLock e { s.lock e with draining := none }).Sound out owed' full := by
  have hlock (e' : Engine) : (s.setLock e { s.lock e with draining := none }).lock e'
      = if e' = e then { s.lock e with draining := none } else s.lock e' := State.lock_setLock e e' _ s
  have hseat (e' : Engine) := State.setLock_seat e e' { s.lock e with draining := none } s
  have hnone : ∀ r g, (b, g) ∉ (s.seat e).tags r := fun r g hg => hlast ((State.opsRemain_iff s e b).2 ⟨r, g, hg⟩)
  obtain ⟨hapart, hscrub, hundrained⟩ := h.of_fewer_locks (t := s.setLock e { s.lock e with draining := none })
    (fun e' b' hb => by rw [hlock] at hb; split at hb <;> simp_all) (fun b' hb => by rw [hlock] at hb; split at hb <;> simp_all)
    (fun e' b' hb => by rw [hlock] at hb; split at hb <;> simp_all)
  refine ⟨hapart, hscrub, fun e' hn => ?seat, fun e' ho => ?unclaimed, hundrained, fun hf e' hn => ?holds, fun hf e' ho => ?leaves,
    h.empty⟩
  case seat =>
    rw [hseat]
    split
    · rename_i he; subst he; exact ⟨(h.seat e' hn).one, (h.seat e' hn).claiming, (h.seat e' hn).working, (h.seat e' hn).op⟩
    · exact h.seat e' hn
  case unclaimed =>
    rw [hlock]
    split
    · rename_i he; exact h.unclaimed e (he ▸ ho)
    · exact h.unclaimed e' ho
  case holds =>
    have hs := h.holds hf e' hn
    rw [hseat]
    split
    · rename_i he
      subst he
      refine ⟨hs.block, hs.live, fun r b' hb => ?_, hs.alike, hs.single, nofun⟩
      obtain rfl : b = b' := Option.some.inj (hdraining.symm.trans (hs.gone r b' hb))
      exact absurd hb (hnone r true)
    · rename_i he
      exact ⟨hs.block, hs.live, hs.gone, hs.alike, hs.single, fun b' hb => (hs.drains b' hb).imp_right (howed e' b' he)⟩
  case leaves =>
    have hs := h.leaves hf e' ho
    rw [hseat]
    split
    · rename_i he
      subst he
      refine ⟨fun r p hp => ⟨(hs.gone r p hp).1, .inl ((hs.gone r p hp).2.resolve_right fun hd => ?_)⟩, hs.alike, hs.single, nofun⟩
      obtain rfl : b = p.1 := Option.some.inj (hdraining.symm.trans hd)
      exact hnone r p.2 hp
    · rename_i he
      exact ⟨hs.gone, hs.alike, hs.single, fun b' hb => (hs.drains b' hb).imp_right (howed e' b' he)⟩

/-- An operation on the request table that leaves the locks. -/
theorem State.Sound.table {s t : State} (h : s.Sound out owed full) (hk : Keeps [.rt] s t) (hl : t.rt.locks = s.rt.locks) :
    t.Sound out owed full :=
  h.of_seats (fun e => State.seat_congr (State.lock_congr hl e) (hk.port (by decide)) (hk.repair (by decide)) (hk.copy (by decide))
    (hk.scrub (by decide))) (h.empty_of_ports (hk.port (by decide)))

theorem sound_frees (out : Option Engine) (owed : Engine → Nat → Prop) (full : Scope) :
    FreesKeep (State.Sound out owed full) where
  table := fun _ _ hk hl _ hs => hs.table hk hl
  grant := fun _ _ _ hclaim hfree hs => hs.grant hclaim hfree
  undrain := fun _ _ _ hd hlast hs => hs.undrain hd hlast fun _ _ _ => id

end Frees

end Sys2Proof.Machine
end

section
/-! Seats through the operations on lists and locks: an entry that leaves a list, an abort, a released lock, a claim, the end of a
copy. -/

namespace Sys2Proof.Machine

open Sys2Proof

variable {full : Scope}

/-! ## Entries that leave a list (R42, R90, R91, R97) -/

/-- The draining holds whose last entry may be one of these, on its way to its owner. -/
def owedBy (l : List IssueEntry) : Engine → Nat → Prop := fun e b => (b, true) ∈ engineTags e l

theorem engineTags_append (e : Engine) (l m : List IssueEntry) : engineTags e (l ++ m) = engineTags e l ++ engineTags e m := by
  simp [engineTags]

theorem engineTags_cons_of_owner {e : Engine} {x : IssueEntry} (h : x.op.owner = .engine e) (l : List IssueEntry) :
    engineTags e (x :: l) = (x.op.block, x.ownerGone) :: engineTags e l := by
  simp [engineTags, h]

theorem engineTags_cons_of_other {e : Engine} {x : IssueEntry} (h : x.op.owner ≠ .engine e) (l : List IssueEntry) :
    engineTags e (x :: l) = engineTags e l := by
  simp [engineTags, h]

theorem Seat.Holds.fewer {owed owed' : Nat → Prop} {x : Seat} (h : x.Holds owed) {tags : Replica → List (Nat × Bool)}
    (hsub : ∀ r, (tags r).Sublist (x.tags r))
    (howed : ∀ b, x.lock.draining = some b → (∃ r g, (b, g) ∈ x.tags r) ∨ owed b → (∃ r g, (b, g) ∈ tags r) ∨ owed' b) :
    Seat.Holds owed' { x with tags := tags } where
  block := h.block
  live := fun r b hb => h.live r b ((hsub r).subset hb)
  gone := fun r b hb => h.gone r b ((hsub r).subset hb)
  alike := fun r q p p' hp hp' => h.alike r q p p' ((hsub r).subset hp) ((hsub q).subset hp')
  single := fun r => (hsub r).length_le.trans (h.single r)
  drains := fun b hb => howed b hb (h.drains b hb)

theorem State.setPort_seat (r : Replica) (p : Port) (s : State) (e : Engine) :
    (s.setPort r p).seat e = { s.seat e with tags := fun q => if q = r then engineTags e p.list else (s.seat e).tags q } := by
  have htags (q : Replica) : engineTags e ((s.setPort r p).port q).list = if q = r then engineTags e p.list else (s.seat e).tags q := by
    rw [State.port_setPort]
    split <;> rfl
  cases e <;> exact State.seat_eq rfl rfl rfl rfl rfl htags

/-- The first entries of a list are taken out of it, on their way to their owners. -/
theorem State.Sound.take {s : State} (h : s.Steady full) {r : Replica} {p : Port} {l rest : List IssueEntry}
    (hlist : (s.port r).list = l ++ rest) (hp : p.list = rest) (hempty : full.ports → p.state ≠ .ready → rest = []) :
    (s.setPort r p).Sound none (owedBy l) full := by
  obtain ⟨hapart, hscrub, hundrained⟩ := h.of_fewer_locks (t := s.setPort r p) (fun _ _ => id) (fun _ => id) fun _ _ => id
  refine ⟨hapart, hscrub, fun e hn => ?_, nofun, hundrained, fun hf e hn => ?_, nofun, fun hf q => ?_⟩
  · rw [State.setPort_seat]
    exact ⟨(h.seat e hn).one, (h.seat e hn).claiming, (h.seat e hn).working, (h.seat e hn).op⟩
  · have hs := h.holds hf e hn
    have htags : (s.seat e).tags r = engineTags e l ++ engineTags e rest :=
      (congrArg (engineTags e) hlist).trans (engineTags_append e l rest)
    rw [State.setPort_seat]
    refine hs.fewer (fun q => ?_) fun b hb hrem => ?_
    · split
      · rename_i hq; rw [hq, htags, hp]; exact List.sublist_append_right _ _
      · exact List.Sublist.refl _
    · obtain ⟨q, g, hg⟩ := hrem.resolve_right id
      by_cases hq : q = r
      · rw [hq, htags, List.mem_append] at hg
        rcases hg with hg | hg
        · cases g with
          | true => exact .inr hg
          | false =>
            have hlive : (b, false) ∈ (s.seat e).tags r := by rw [htags]; exact List.mem_append_left _ hg
            exact absurd ⟨e, hb⟩ (h.undrained hf e b (hs.live r b hlive).1)
        · exact .inl ⟨r, g, by rw [if_pos rfl, hp]; exact hg⟩
      · exact .inl ⟨q, g, by rw [if_neg hq]; exact hg⟩
  · rw [State.port_setPort]
    split
    · rw [hp]; exact hempty hf
    · exact h.empty hf q

theorem State.Sound.owed_mono {owed owed' : Engine → Nat → Prop} {s : State} (h : s.Sound none owed full)
    (howed : ∀ e b, (s.lock e).draining = some b → owed e b → s.OpsRemain e b ∨ owed' e b) : s.Sound none owed' full := by
  refine { h with holds := fun hf e hn => ?_, leaves := nofun }
  have hs := h.holds hf e hn
  exact ⟨hs.block, hs.live, hs.gone, hs.alike, hs.single, fun b hb => (hs.drains b hb).elim .inl fun ho =>
    (howed e b hb ho).imp_left (State.opsRemain_iff s e b).1⟩

theorem recordAnswer_get_of_ne {answers : Tri (Option OpAnswer)} {r q : Replica} (h : q ≠ r) (x : OpAnswer) :
    (recordAnswer answers r x).get q = answers.get q := by
  unfold recordAnswer
  split
  · rw [Tri.get_set, if_neg h]
  all_goals rfl

theorem OpStage.recordAnswer_eq_none_iff (o : OpStage) (r : Replica) (x : OpAnswer) : o.recordAnswer r x = .none ↔ o = .none := by
  cases o <;> simp [OpStage.recordAnswer]

theorem State.setEngineOp_seat (e e' : Engine) (o : OpStage) (s : State) :
    (s.setEngineOp e o).seat e' = if e' = e then { s.seat e with op := o } else s.seat e' := by
  cases e <;> cases e' <;> rfl

/-- An answer or a loss reaches an engine that has no entry left in that port's list. -/
theorem State.Sound.recordAnswer {owed : Engine → Nat → Prop} {s : State} (h : s.Sound none owed full) (e : Engine) (r : Replica)
    (x : OpAnswer) (hnone : full.entries → (s.seat e).tags r = []) :
    (s.setEngineOp e ((s.engineOp e).recordAnswer r x)).Sound none owed full := by
  have hseat (e' : Engine) := State.setEngineOp_seat e e' ((s.engineOp e).recordAnswer r x) s
  have hkeeps := State.setEngineOp_keeps e ((s.engineOp e).recordAnswer r x) s
  refine h.move e (hkeeps.lock (by decide) e) (fun e' he => (hseat e').trans (if_neg he)) (fun hn => ?_) (fun hf hn => ?_) nofun
    (h.empty_of_ports (hkeeps.port (by decide)))
  · have hs := h.seat e hn
    rw [hseat, if_pos rfl]
    exact ⟨hs.one, hs.claiming, hs.working, fun ho => hs.op (mt (OpStage.recordAnswer_eq_none_iff _ r x).2 ho)⟩
  · have hs := h.holds hf e hn
    rw [hseat, if_pos rfl]
    refine ⟨hs.block, fun q b hb => ?_, hs.gone, hs.alike, hs.single, hs.drains⟩
    obtain ⟨hheld, answers, hout, hpending⟩ := hs.live q b hb
    have hq : q ≠ r := by
      rintro rfl
      exact List.not_mem_nil (hnone hf ▸ hb)
    exact ⟨hheld, _, congrArg (OpStage.recordAnswer · r x) hout, (recordAnswer_get_of_ne hq x).trans hpending⟩

/-- An entry that has left a list reaches its owner (R90, R91). -/
theorem State.Sound.handOn {s : State} {r : Replica} {entry : IssueEntry} {l : List IssueEntry}
    (h : s.Sound none (owedBy (entry :: l)) full) (x : OpAnswer)
    (hnone : full.entries → ∀ e, entry.op.owner = .engine e → (s.seat e).tags r = []) :
    (s.handOn r x entry).Sound none (owedBy l) full := by
  cases howner : entry.op.owner with
  | slot i =>
    rw [State.handOn_slot howner]
    refine (h.owed_mono fun e b _ ho => .inr ?_).table (State.setSlot_keeps _ _ _) rfl
    change (b, true) ∈ engineTags e (entry :: l) at ho
    rw [engineTags_cons_of_other fun hn => nomatch howner.symm.trans hn] at ho
    exact ho
  | engine e =>
    have howed {e' : Engine} {b : Nat} (ho : owedBy (entry :: l) e' b) :
        (e' = e ∧ b = entry.op.block ∧ entry.ownerGone = true) ∨ owedBy l e' b := by
      change (b, true) ∈ engineTags e' (entry :: l) at ho
      by_cases he : e' = e
      · subst he
        rw [engineTags_cons_of_owner howner, List.mem_cons, Prod.mk.injEq] at ho
        exact ho.imp_left fun h => ⟨rfl, h.1, h.2.symm⟩
      · rw [engineTags_cons_of_other (by rw [howner]; exact fun hn => he (Owner.engine.inj hn).symm)] at ho
        exact .inr ho
    cases hgone : entry.ownerGone with
    | false =>
      rw [State.handOn_live howner hgone]
      exact (h.owed_mono fun e' b _ ho => .inr ((howed ho).resolve_left (by simp [hgone]))).recordAnswer e r x
        fun hf => hnone hf e howner
    | true =>
      rw [State.handOn_gone howner hgone]
      by_cases hlast : (s.lock e).draining = some entry.op.block ∧ ¬s.OpsRemain e entry.op.block
      · rw [State.goneLeft_of_last hlast.1 hlast.2]
        exact (sound_frees _ _ _).freeBlock _ (h.undrain hlast.1 hlast.2 fun e' b he ho => (howed ho).resolve_left fun hn => he hn.1)
      · rw [State.goneLeft_of_not_last (by tauto)]
        refine h.owed_mono fun e' b hb ho => (howed ho).imp_left ?_
        rintro ⟨rfl, rfl, -⟩
        tauto

theorem foldl_handOn_sound {r : Replica} (l : List IssueEntry) {s : State} (h : s.Sound none (owedBy l) full)
    (hlist : (s.port r).list = []) : (l.foldl (fun s entry => s.handOn r .lost entry) s).Steady full := by
  induction l generalizing s with
  | nil => exact h.owed_mono fun e b _ ho => absurd ho List.not_mem_nil
  | cons x l ih =>
    refine ih (h.handOn .lost fun _ e _ => ?_) ?_
    · change engineTags e (s.port r).list = []
      rw [hlist]
      rfl
    · rw [(State.handOn_keeps r .lost x s).port (by decide), hlist]

theorem State.emptyPort_steady (r : Replica) {s : State} (h : s.Steady full) : (s.emptyPort r).Steady full := by
  rw [State.emptyPort_eq]
  refine foldl_handOn_sound _ (h.take (rest := []) (List.append_nil _).symm rfl fun _ _ => rfl) ?_
  rw [State.port_setPort_self]
  rfl

/-- A head that is answered. -/
theorem State.answered_steady {s : State} {r : Replica} {head : IssueEntry} {rest : List IssueEntry} (h : s.Steady full)
    (hready : (s.port r).state = .ready) (hlist : (s.port r).list = head :: rest) (x : OpAnswer) :
    ((s.dropHead r rest).handOn r x head).Steady full := by
  have htaken : (s.dropHead r rest).Sound none (owedBy [head]) full := h.take (l := [head]) hlist rfl fun _ hn => absurd hready hn
  refine (htaken.handOn x fun hf e howner => ?_).owed_mono fun e b _ ho => absurd ho List.not_mem_nil
  have hsingle := (h.holds hf e nofun).single r
  have htags : (s.seat e).tags r = (head.op.block, head.ownerGone) :: engineTags e rest :=
    (congrArg (engineTags e) hlist).trans (engineTags_cons_of_owner howner rest)
  rw [htags, List.length_cons] at hsingle
  have hrest : engineTags e rest = [] := List.length_eq_zero_iff.1 (by omega)
  rw [State.dropHead, State.setPort_seat]
  exact (if_pos rfl).trans hrest

/-! ## An operation on one engine -/

/-- The engine's phase, op and block may have changed; its lock, the ports and the other engines have not. -/
structure State.SeatMoved (e : Engine) (s t : State) : Prop where
  others : ∀ e', e' ≠ e → t.seat e' = s.seat e'
  lock : t.lock e = s.lock e
  port : ∀ r, t.port r = s.port r

theorem State.SeatMoved.refl (e : Engine) (s : State) : s.SeatMoved e s := ⟨fun _ _ => rfl, rfl, fun _ => rfl⟩

theorem State.SeatMoved.repair (x : Repair) (s : State) : s.SeatMoved .repair { s with repair := x } :=
  ⟨fun e he => by cases e <;> first | rfl | exact absurd rfl he, rfl, fun _ => rfl⟩

theorem State.SeatMoved.copy (x : Copy) (s : State) : s.SeatMoved .copy { s with copy := x } :=
  ⟨fun e he => by cases e <;> first | rfl | exact absurd rfl he, rfl, fun _ => rfl⟩

theorem State.SeatMoved.scrub (x : Scrub) (s : State) : s.SeatMoved .scrub { s with scrub := x } :=
  ⟨fun e he => by cases e <;> first | rfl | exact absurd rfl he, rfl, fun _ => rfl⟩

section Moved

variable {e : Engine} {s t : State} (hm : s.SeatMoved e t)
include hm

theorem State.SeatMoved.of_seats {u : State} (hseats : ∀ e', u.seat e' = t.seat e') (hports : ∀ r, u.port r = t.port r) :
    s.SeatMoved e u :=
  ⟨fun e' he => (hseats e').trans (hm.others e' he), (State.lock_eq_of_seat (hseats e)).trans hm.lock,
    fun r => (hports r).trans (hm.port r)⟩

theorem State.SeatMoved.trans {u : State} (hm' : t.SeatMoved e u) : s.SeatMoved e u :=
  ⟨fun e' he => (hm'.others e' he).trans (hm.others e' he), hm'.lock.trans hm.lock, fun r => (hm'.port r).trans (hm.port r)⟩

theorem State.SeatMoved.tags : (t.seat e).tags = (s.seat e).tags := funext fun r => State.tags_congr e (hm.port r)

theorem State.SeatMoved.locks (e' : Engine) : t.lock e' = s.lock e' := by
  by_cases he : e' = e
  · rw [he, hm.lock]
  · exact State.lock_eq_of_seat (hm.others e' he)

theorem State.Sound.moved {out : Option Engine} {owed : Engine → Nat → Prop} (h : s.Sound out owed full)
    (hwf : out ≠ some e → (t.seat e).Wf) (hholds : full.entries → out ≠ some e → (t.seat e).Holds (owed e))
    (hleaves : full.entries → out = some e → (t.seat e).Leaves (owed e)) : t.Sound out owed full :=
  h.move e hm.lock hm.others hwf hholds hleaves (h.empty_of_ports hm.port)

/-- An engine that holds and claims nothing has changed, and has no op. -/
theorem State.Sound.moved_idle {owed : Engine → Nat → Prop} (h : s.Sound none owed full) (hheld : (s.lock e).held = none)
    (hclaim : (s.lock e).claim = none) (hop : t.engineOp e = .none) : t.Sound none owed full := by
  have hlock : (t.seat e).lock = s.lock e := hm.lock
  refine h.moved hm (fun _ => ⟨fun _ => ?_, fun hn => ?_, fun hn => ?_, fun hn => absurd hop hn⟩) (fun hf hn => ?_) nofun
  · rw [hlock, hclaim]
  · simp [hlock, hclaim] at hn
  · simp [hlock, hheld] at hn
  · have hs := h.holds hf e hn
    refine ⟨fun b hb => ?_, fun r b hb => ?_, fun r b hb => ?_, ?_, ?_, fun b hb => ?_⟩
    · simp [hlock, hheld, hclaim] at hb
    · rw [hm.tags] at hb
      exact absurd hb (hs.allGone hheld r b)
    · rw [hm.tags] at hb
      rw [hlock]
      exact hs.gone r b hb
    · rw [hm.tags]; exact hs.alike
    · rw [hm.tags]; exact hs.single
    · rw [hlock] at hb
      rw [hm.tags]
      exact hs.drains b hb

end Moved

theorem Seat.Leaves.congr {owed : Nat → Prop} {x y : Seat} (h : x.Leaves owed) (hlock : y.lock = x.lock) (htags : y.tags = x.tags) :
    y.Leaves owed := by
  obtain ⟨hgone, halike, hsingle, hdrains⟩ := h
  constructor <;> rw [htags] <;> (try rw [hlock]) <;> assumption

section Release

variable {e : Engine} {s t : State}

/-- An engine whose entries are all gone turns to the release of its lock. -/
theorem State.Sound.leave (h : s.Steady full) (hm : s.SeatMoved e t) (hclaim : (s.lock e).claim = none)
    (hgone : full.entries → (s.seat e).AllGone) : t.Sound (some e) nothingOwed full := by
  obtain ⟨hapart, hscrub, hundrained⟩ := h.of_fewer_locks (t := t) (fun e' b => by rw [hm.locks]; exact id)
    (fun b => by rw [hm.locks]; exact id) (fun e' b => by rw [hm.locks]; exact id)
  have hne {e' : Engine} (hn : some e ≠ some e') : e' ≠ e := fun he => hn (by rw [he])
  refine ⟨hapart, hscrub, fun e' hn => ?_, fun e' ho => ?_, hundrained, fun hf e' hn => ?_, fun hf e' ho => ?_,
    h.empty_of_ports hm.port⟩
  · rw [hm.others e' (hne hn)]; exact h.seat e' nofun
  · obtain rfl := Option.some.inj ho
    rw [hm.lock, hclaim]
  · rw [hm.others e' (hne hn)]; exact h.holds hf e' nofun
  · obtain rfl := Option.some.inj ho
    exact ((h.holds hf e nofun).leaves (hgone hf)).congr hm.lock hm.tags

theorem engineTags_markGone (e e' : Engine) (p : Port) :
    engineTags e' (p.markGone e).list = if e' = e then (engineTags e p.list).map fun q => (q.1, true) else engineTags e' p.list := by
  have hmark (x : IssueEntry) : (if x.op.owner == .engine e then { x with ownerGone := true } else x).op = x.op := by split <;> rfl
  unfold Port.markGone engineTags
  simp only [List.filter_map, List.map_map]
  have hfilter : ((fun x : IssueEntry => x.op.owner == .engine e') ∘ fun x =>
      if x.op.owner == .engine e then { x with ownerGone := true } else x) = fun x => x.op.owner == .engine e' :=
    funext fun x => by simp only [Function.comp, hmark]
  rw [hfilter]
  split
  · rename_i he
    subst he
    refine List.map_congr_left fun x hx => ?_
    have howner : (x.op.owner == .engine e') = true := (List.mem_filter.1 hx).2
    simp only [Function.comp, howner, if_true]
  · rename_i he
    refine List.map_congr_left fun x hx => ?_
    have howner : x.op.owner = .engine e' := by simpa using (List.mem_filter.1 hx).2
    have hne : (x.op.owner == .engine e) = false := by rw [howner]; simpa using he
    simp only [Function.comp, hne, Bool.false_eq_true, if_false]

/-- An engine abandons its work: its entries are marked, its claim is withdrawn, and it turns to the release of its lock (R91). -/
theorem State.Sound.withdraw (h : s.Steady full) (hm : s.SeatMoved e t) : (t.withdrawn e).Sound (some e) nothingOwed full := by
  have hlock (e' : Engine) : (t.withdrawn e).lock e' = if e' = e then { s.lock e with claim := none } else s.lock e' := by
    rw [State.withdrawn_lock, hm.lock]
    split
    · rfl
    · exact hm.locks e'
  have htags (e' : Engine) (r : Replica) : ((t.withdrawn e).seat e').tags r =
      if e' = e then ((s.seat e).tags r).map fun q => (q.1, true) else (s.seat e').tags r := by
    change engineTags e' ((t.withdrawn e).port r).list = _
    rw [State.withdrawn_port, hm.port, engineTags_markGone]
    rfl
  have hseat (e' : Engine) (he : e' ≠ e) : (t.withdrawn e).seat e' = s.seat e' := by
    have hs := hm.others e' he
    refine State.seat_eq ((hlock e').trans (if_neg he)) ?_ ?_ ?_ ?_ fun r => (htags e' r).trans (if_neg he)
    · exact (congrArg Seat.op hs : t.engineOp e' = _)
    · exact (congrArg Seat.block hs : t.workBlock e' = _)
    · exact (congrArg Seat.claiming hs : t.claimingPhase e' = _)
    · exact (congrArg Seat.working hs : t.workingPhase e' = _)
  have hne {e' : Engine} (hn : some e ≠ some e') : e' ≠ e := fun he => hn (by rw [he])
  obtain ⟨hapart, hscrub, hundrained⟩ := h.of_fewer_locks (t := t.withdrawn e)
    (fun e' b hb => by rw [hlock] at hb; split at hb <;> simp_all) (fun b hb => by rw [hlock] at hb; split at hb <;> simp_all)
    (fun e' b hb => by rw [hlock] at hb; split at hb <;> simp_all)
  refine ⟨hapart, hscrub, fun e' hn => ?_, fun e' ho => ?_, hundrained, fun hf e' hn => ?_, fun hf e' ho => ?_, fun hf r => ?_⟩
  · rw [hseat e' (hne hn)]; exact h.seat e' nofun
  · obtain rfl := Option.some.inj ho
    rw [hlock, if_pos rfl]
  · rw [hseat e' (hne hn)]; exact h.holds hf e' nofun
  · obtain rfl := Option.some.inj ho
    have hlock' : ((t.withdrawn e).seat e).lock = { s.lock e with claim := none } := (hlock e).trans (if_pos rfl)
    exact (h.holds hf e nofun).leaves_marked (by rw [hlock']; rfl) (by rw [hlock']; rfl) fun r => (htags e r).trans (if_pos rfl)
  · rw [State.withdrawn_port, hm.port]
    intro hstate
    have hnil := h.empty hf r hstate
    simp [Port.markGone, hnil]

/-- The engine has released its lock; what it works at is as before. -/
structure State.Released (e : Engine) (s t : State) : Prop where
  held : (t.lock e).held = none
  claim : (t.lock e).claim = none
  op : t.engineOp e = s.engineOp e
  block : t.workBlock e = s.workBlock e
  phase : t.claimingPhase e = s.claimingPhase e

theorem State.Released.of_seat {u : State} (h : s.Released e t) (hseat : u.seat e = t.seat e) : s.Released e u :=
  ⟨by rw [State.lock_eq_of_seat hseat]; exact h.held, by rw [State.lock_eq_of_seat hseat]; exact h.claim,
    (congrArg Seat.op hseat).trans h.op, (congrArg Seat.block hseat).trans h.block, (congrArg Seat.claiming hseat).trans h.phase⟩

theorem released_frees (e : Engine) (s : State) : FreesKeep (State.Released e s) where
  table := fun t u hk hl _ ht => ht.of_seat (State.seat_congr (State.lock_congr hl e) (hk.port (by decide)) (hk.repair (by decide))
    (hk.copy (by decide)) (hk.scrub (by decide)))
  grant := fun e' b t hclaim _ ht => by
    have he : e ≠ e' := fun he => by rw [← he, ht.claim] at hclaim; cases hclaim
    exact ht.of_seat (State.grantClaim_seat_other he fun hs => by rw [← hs, ht.claim]; nofun)
  undrain := fun e' b t _ _ ht => by
    have hseat := State.setLock_seat e' e { t.lock e' with draining := none } t
    by_cases he : e = e'
    · subst he
      rw [if_pos rfl] at hseat
      exact ⟨by rw [State.lock_setLock_self]; exact ht.held, by rw [State.lock_setLock_self]; exact ht.claim,
        (congrArg Seat.op hseat).trans ht.op, (congrArg Seat.block hseat).trans ht.block,
        (congrArg Seat.claiming hseat).trans ht.phase⟩
    · rw [if_neg he] at hseat
      exact ht.of_seat hseat

theorem State.setLock_released {x : EngineLock} (hheld : x.held = none) (hclaim : x.claim = none) :
    s.Released e (s.setLock e x) := by
  have hseat := State.setLock_seat e e x s
  rw [if_pos rfl] at hseat
  exact ⟨by rw [State.lock_setLock_self, hheld], by rw [State.lock_setLock_self, hclaim], congrArg Seat.op hseat,
    congrArg Seat.block hseat, congrArg Seat.claiming hseat⟩

theorem State.releaseLock_released (hclaim : (s.lock e).claim = none) : s.Released e (s.releaseLock e) :=
  (released_frees e s).releaseLock e (fun hheld => ⟨hheld, hclaim, rfl, rfl, rfl⟩) (fun _ _ _ => State.setLock_released rfl rfl)
    fun _ _ _ => State.setLock_released rfl rfl

/-- A lock is released, into a draining hold while entries for its block remain (R42). -/
theorem State.Sound.releaseLock (h : s.Sound (some e) nothingOwed full) : (s.releaseLock e).Sound (some e) nothingOwed full := by
  refine (sound_frees _ _ _).releaseLock e (fun _ => h) (fun block hheld hops => ?drain) (fun block hheld hops => ?free)
  case drain =>
    have hlock (e' : Engine) := State.lock_setLock e e' { held := none, claim := none, draining := some block } s
    have hseat (e' : Engine) := State.setLock_seat e e' { held := none, claim := none, draining := some block } s
    have hsame {e' : Engine} {b : Nat}
        (hb : ((s.setLock e { held := none, claim := none, draining := some block }).lock e').held = some b) :
        e' ≠ e ∧ (s.lock e').held = some b := by
      rw [hlock] at hb
      split at hb
      · cases hb
      · exact ⟨‹_›, hb⟩
    have hdrains {b : Nat} (hd : (s.setLock e { held := none, claim := none, draining := some block }).Drains b) :
        b = block ∨ s.Drains b := by
      obtain ⟨e', he'⟩ := hd
      rw [hlock] at he'
      split at he'
      · exact .inl (Option.some.inj he').symm
      · exact .inr ⟨e', he'⟩
    refine ⟨fun e₁ e₂ b hne h1 h2 => h.apart e₁ e₂ b hne (hsame h1).2 (hsame h2).2, fun b hb => ?_, fun e' hn => ?_, fun e' ho => ?_,
      fun hf e' b hb hd => ?_, fun hf e' hn => ?_, fun hf e' ho => ?_, h.empty⟩
    · have hpending : .scrub ≠ e ∧ (s.lock .scrub).claim = some b := by
        rw [hlock] at hb
        split at hb
        · cases hb
        · exact ⟨‹_›, hb⟩
      obtain ⟨hothers, hnd⟩ := h.scrubBlock b hpending.2
      refine ⟨fun e' he' h' => hothers e' he' (hsame h').2, fun hd => ?_⟩
      rcases hdrains hd with rfl | hd
      · exact hothers e hpending.1.symm hheld
      · exact hnd hd
    · rw [hseat, if_neg fun he => hn (by rw [he])]; exact h.seat e' hn
    · rw [hlock, if_pos (Option.some.inj ho).symm]
    · rcases hdrains hd with rfl | hd
      · exact h.apart e' e b (hsame hb).1 (hsame hb).2 hheld
      · exact h.undrained hf e' b (hsame hb).2 hd
    · rw [hseat, if_neg fun he => hn (by rw [he])]; exact h.holds hf e' hn
    · obtain rfl := Option.some.inj ho
      have hs := h.leaves hf e rfl
      obtain ⟨r, g, hg⟩ := (State.opsRemain_iff s e block).1 hops
      rw [hseat, if_pos rfl]
      refine ⟨fun q p hp => ⟨(hs.gone q p hp).1, .inr (congrArg some (hs.alike r q _ p hg hp))⟩, hs.alike, hs.single, fun b hb => ?_⟩
      obtain rfl : block = b := Option.some.inj hb
      exact .inl ⟨r, g, hg⟩
  case free =>
    have hlock (e' : Engine) := State.lock_setLock e e' { s.lock e with held := none, claim := none } s
    have hseat (e' : Engine) := State.setLock_seat e e' { s.lock e with held := none, claim := none } s
    obtain ⟨hapart, hscrub, hundrained⟩ := h.of_fewer_locks (t := s.setLock e { s.lock e with held := none, claim := none })
      (fun e' b hb => by rw [hlock] at hb; split at hb <;> simp_all) (fun b hb => by rw [hlock] at hb; split at hb <;> simp_all)
      (fun e' b hb => by rw [hlock] at hb; split at hb <;> simp_all)
    refine ⟨hapart, hscrub, fun e' hn => ?_, fun e' ho => ?_, hundrained, fun hf e' hn => ?_, fun hf e' ho => ?_, h.empty⟩
    · rw [hseat, if_neg fun he => hn (by rw [he])]; exact h.seat e' hn
    · rw [hlock, if_pos (Option.some.inj ho).symm]
    · rw [hseat, if_neg fun he => hn (by rw [he])]; exact h.holds hf e' hn
    · obtain rfl := Option.some.inj ho
      have hs := h.leaves hf e rfl
      rw [hseat, if_pos rfl]
      refine ⟨fun q p hp => ⟨(hs.gone q p hp).1, .inr ((hs.gone q p hp).2.resolve_left fun hb => ?_)⟩, hs.alike, hs.single, hs.drains⟩
      obtain rfl : block = p.1 := Option.some.inj (hheld.symm.trans hb)
      exact hops ((State.opsRemain_iff s e p.1).2 ⟨q, p.2, hp⟩)

/-- An engine that has released its lock, and has no op any more, is in its place again. -/
theorem State.Sound.settled (h : s.Sound (some e) nothingOwed full) (hheld : (s.lock e).held = none) (hm : s.SeatMoved e t)
    (hop : t.engineOp e = .none) : t.Steady full := by
  have hclaim := h.unclaimed e rfl
  have hlock : (t.seat e).lock = s.lock e := hm.lock
  obtain ⟨hapart, hscrub, hundrained⟩ := h.of_fewer_locks (t := t) (fun e' b => by rw [hm.locks]; exact id)
    (fun b => by rw [hm.locks]; exact id) (fun e' b => by rw [hm.locks]; exact id)
  refine ⟨hapart, hscrub, fun e' _ => ?_, nofun, hundrained, fun hf e' _ => ?_, nofun, h.empty_of_ports hm.port⟩
  · by_cases he : e' = e
    · subst he
      exact ⟨fun _ => by rw [hlock, hclaim], fun hn => by simp [hlock, hclaim] at hn, fun hn => by simp [hlock, hheld] at hn,
        fun hn => absurd hop hn⟩
    · rw [hm.others e' he]; exact h.seat e' fun hn => he (Option.some.inj hn).symm
  · by_cases he : e' = e
    · subst he
      exact ((h.leaves hf e' rfl).congr hlock hm.tags).holds (by rw [hlock, hheld]) (by rw [hlock, hclaim])
    · rw [hm.others e' he]; exact h.holds hf e' fun hn => he (Option.some.inj hn).symm

end Release

/-! ## Claims (R39, R40, R41) -/

section Claim

variable {e : Engine} {s t : State} {b : Nat}

/-- An engine in its claiming phase, without a lock, makes a claim on the block it works at. -/
theorem State.Sound.noteClaim (h : t.Steady full) (hr : s.Released e t) (hphase : s.claimingPhase e = true) (hblock : s.workBlock e = b)
    (hscrub : e = .scrub → (∀ e', e' ≠ .scrub → (t.lock e').held ≠ some b) ∧ ¬t.Drains b) :
    (t.setLock e { t.lock e with claim := some b }).Steady full := by
  have hlock (e' : Engine) := State.lock_setLock e e' { t.lock e with claim := some b } t
  have hseat (e' : Engine) := State.setLock_seat e e' { t.lock e with claim := some b } t
  have hheld (e' : Engine) : ((t.setLock e { t.lock e with claim := some b }).lock e').held = (t.lock e').held := by
    rw [hlock]; split <;> simp_all
  have hdrains {b' : Nat} : (t.setLock e { t.lock e with claim := some b }).Drains b' → t.Drains b' := by
    rintro ⟨e', he'⟩
    rw [hlock] at he'
    split at he'
    · exact ⟨e, he'⟩
    · exact ⟨e', he'⟩
  refine ⟨fun e₁ e₂ b' hne => by rw [hheld, hheld]; exact h.apart e₁ e₂ b' hne, fun b' hb => ?_, fun e' hn => ?_, nofun,
    fun hf e' b' hb hd => h.undrained hf e' b' (by rwa [hheld] at hb) (hdrains hd), fun hf e' hn => ?_, nofun, h.empty⟩
  · have hfree : (∀ e', e' ≠ .scrub → (t.lock e').held ≠ some b') ∧ ¬t.Drains b' := by
      rw [hlock] at hb
      split at hb
      · rename_i he
        obtain rfl : b = b' := Option.some.inj hb
        exact hscrub he.symm
      · exact h.scrubBlock b' hb
    exact ⟨fun e' he => by rw [hheld]; exact hfree.1 e' he, fun hd => hfree.2 (hdrains hd)⟩
  · rw [hseat]
    split
    · have hs := h.seat e nofun
      exact ⟨fun hn => by simp [hr.held] at hn, fun _ => hr.phase.trans hphase, hs.working, hs.op⟩
    · exact h.seat e' hn
  · rw [hseat]
    split
    · have hs := h.holds hf e nofun
      refine ⟨fun b' hb => ?_, hs.live, hs.gone, hs.alike, hs.single, hs.drains⟩
      have hb' : b = b' := by simpa [hr.held] using hb
      exact hb' ▸ (hr.block.trans hblock).symm
    · exact h.holds hf e' hn

theorem State.Sound.claim (h : s.Steady full) (hheld : (s.lock e).held = none) (hclaim : (s.lock e).claim = none)
    (hphase : s.claimingPhase e = true) (hblock : s.workBlock e = b)
    (hscrub : e = .scrub → (∀ e', e' ≠ .scrub → (s.lock e').held ≠ some b) ∧ ¬s.Drains b) : (s.claim e b).Steady full := by
  have hself : s.Released e s := ⟨hheld, hclaim, rfl, rfl, rfl⟩
  by_cases he : e = .scrub
  · subst he
    exact h.noteClaim hself hphase hblock hscrub
  · have hboth : FreesKeep fun t => t.Steady full ∧ s.Released e t :=
      { table := fun t u hk hl hr ht => ⟨(sound_frees _ _ _).table t u hk hl hr ht.1, (released_frees e s).table t u hk hl hr ht.2⟩
        grant := fun e' b' t hc hf ht => ⟨ht.1.grant hc hf, (released_frees e s).grant e' b' t hc hf ht.2⟩
        undrain := fun e' b' t hd hl ht => ⟨(sound_frees _ _ _).undrain e' b' t hd hl ht.1,
          (released_frees e s).undrain e' b' t hd hl ht.2⟩ }
    exact hboth.claim e b (fun t ht => ht.1.noteClaim ht.2 hphase hblock fun hn => absurd hn he) ⟨h, hself⟩

end Claim

/-! ## Retirements and the end of a copy -/

theorem State.Sound.setPort {r : Replica} {p : Port} {s : State} (h : s.Steady full)
    (htags : full.entries → ∀ e, engineTags e p.list = engineTags e (s.port r).list)
    (hempty : full.ports → p.state ≠ .ready → p.list = []) : (s.setPort r p).Steady full := by
  obtain ⟨hapart, hscrub, hundrained⟩ := h.of_fewer_locks (t := s.setPort r p) (fun _ _ => id) (fun _ => id) fun _ _ => id
  refine ⟨hapart, hscrub, fun e hn => ?_, nofun, hundrained, fun hf e hn => ?_, nofun, fun hf q => ?_⟩
  · rw [State.setPort_seat]
    exact ⟨(h.seat e hn).one, (h.seat e hn).claiming, (h.seat e hn).working, (h.seat e hn).op⟩
  · have hseat : (s.setPort r p).seat e = s.seat e := by
      have hsame : (fun q => if q = r then engineTags e p.list else (s.seat e).tags q) = (s.seat e).tags := funext fun q => by
        split
        · rename_i hq; rw [hq, htags hf]; rfl
        · rfl
      rw [State.setPort_seat, hsame]
    rw [hseat]
    exact h.holds hf e hn
  · rw [State.port_setPort]
    split
    · exact hempty hf
    · exact h.empty hf q

theorem State.retireMask_seat (r : Replica) (s : State) (e : Engine) : State.seat { s with repair := s.repair.retire r } e = s.seat e := by
  have hsame : (s.repair.retire r).phase = s.repair.phase ∧ (s.repair.retire r).op = s.repair.op
      ∧ (s.repair.retire r).block = s.repair.block := by
    rw [Repair.retire_eq]
    exact ⟨rfl, rfl, rfl⟩
  cases e with
  | copy => rfl
  | scrub => rfl
  | repair =>
    refine State.seat_eq (s := { s with repair := s.repair.retire r }) rfl hsame.2.1 hsame.2.2 ?_ ?_ fun _ => rfl
    · exact congrArg (· == RepairPhase.claim) hsame.1
    · exact congrArg (fun p => p == RepairPhase.read || p == .write || p == .verify) hsame.1

theorem State.copyForget_seat (s : State) (e : Engine) : s.copyForget.seat e = s.seat e := by cases e <;> rfl

/-- A copy is stopped, where its context has perhaps moved on. -/
theorem State.Sound.copyStopped {s t : State} (h : s.Steady full) (hm : s.SeatMoved .copy t) (o : CopyOutcome) :
    (t.copyStopped o).Steady full := by
  have hended : t.SeatMoved .copy { t with copy := t.copy.ended o } := State.SeatMoved.copy _ t
  have hmoved : s.SeatMoved .copy ({ t with copy := t.copy.ended o } : State).copyForget :=
    (hm.trans hended).of_seats (State.copyForget_seat _) fun _ => rfl
  have hstands := t.copyStopped_stands o
  have hout : (t.copyStopped o).Sound (some .copy) nothingOwed full := (h.withdraw hmoved).releaseLock
  exact hout.settled hstands.held (State.SeatMoved.refl _ _) (congrArg Copy.op hstands.copy)

theorem steady_side (full : Scope) : SideKeep (State.Steady full) where
  outer := steady_ignores full
  runCount := fun n s hs => hs.of_seats (fun e => by cases e <;> rfl) hs.empty
  mask := fun r s hs => hs.of_seats (State.retireMask_seat r s) hs.empty
  beginAbort := fun r s hs => (State.emptyPort_steady r hs).setPort (fun _ _ => rfl)
    fun hf hn => (State.emptyPort_steady r hs).empty hf r hn
  copyStopped := fun o s hs => hs.copyStopped (State.SeatMoved.refl _ s) o

end Sys2Proof.Machine
end

section
/-! The invariants of the engines through decisions and steps (R39, R42, R103, R114, R140). -/

namespace Sys2Proof.Machine

open Sys2Proof

variable {full : Scope}

/-! ## The two invariants as one -/

theorem State.claimingPhase_iff (s : State) (e : Engine) : s.claimingPhase e = true ↔
    match e with
    | .repair => s.repair.phase = .claim
    | .copy => s.copy.state = .running ∧ s.copy.step = .claim
    | .scrub => s.scrub.state = .claiming := by
  cases e <;> simp [State.claimingPhase]

theorem State.workingPhase_iff (s : State) (e : Engine) : s.workingPhase e = true ↔
    match e with
    | .repair => s.repair.phase = .read ∨ s.repair.phase = .write ∨ s.repair.phase = .verify
    | .copy => s.copy.state = .running ∧ (s.copy.step = .read ∨ s.copy.step = .write)
    | .scrub => s.scrub.state = .reading := by
  cases e <;> simp [State.workingPhase, or_assoc]

theorem State.EnginesWf.seat {s : State} (h : s.EnginesWf) (e : Engine) : (s.seat e).Wf where
  one := h.one e
  claiming := fun hn => (State.claimingPhase_iff s e).2 <| by
    cases e with
    | repair => exact h.repairClaim hn
    | copy => exact h.copyClaim hn
    | scrub => exact h.scrubClaim hn
  working := fun hn => (State.workingPhase_iff s e).2 <| by
    cases e with
    | repair => exact h.repairHeld hn
    | copy => exact h.copyHeld hn
    | scrub => exact h.scrubHeld hn
  op := by
    cases e with
    | repair => exact h.repairOp
    | copy => exact h.copyOp
    | scrub => exact h.scrubOp

theorem State.EnginesWf.scrubBlock' {s : State} (h : s.EnginesWf) {b : Nat} (hb : (s.lock .scrub).claim = some b) :
    (∀ e, e ≠ .scrub → (s.lock e).held ≠ some b) ∧ ¬s.Drains b := by
  obtain ⟨hrepair, hcopy, hdraining⟩ := h.scrubBlock b hb
  refine ⟨fun e he => ?_, by rw [← State.draining_iff, hdraining]; decide⟩
  cases e with
  | repair => exact hrepair
  | copy => exact hcopy
  | scrub => exact absurd rfl he

theorem State.EnginesWf.steady {s : State} (h : s.EnginesWf) : s.Steady ⟨False, False⟩ :=
  ⟨h.apart, fun _ => h.scrubBlock', fun e _ => h.seat e, nofun, nofun, nofun, nofun, nofun⟩

theorem State.Sound.enginesWf {s : State} (h : s.Steady full) : s.EnginesWf where
  apart := h.apart
  one := fun e => (h.seat e nofun).one
  repairClaim := fun hn => (s.claimingPhase_iff .repair).1 ((h.seat .repair nofun).claiming hn)
  repairHeld := fun hn => (s.workingPhase_iff .repair).1 ((h.seat .repair nofun).working hn)
  repairOp := (h.seat .repair nofun).op
  copyClaim := fun hn => (s.claimingPhase_iff .copy).1 ((h.seat .copy nofun).claiming hn)
  copyHeld := fun hn => (s.workingPhase_iff .copy).1 ((h.seat .copy nofun).working hn)
  copyOp := (h.seat .copy nofun).op
  scrubClaim := fun hn => (s.claimingPhase_iff .scrub).1 ((h.seat .scrub nofun).claiming hn)
  scrubHeld := fun hn => (s.workingPhase_iff .scrub).1 ((h.seat .scrub nofun).working hn)
  scrubOp := (h.seat .scrub nofun).op
  scrubBlock := fun b hb => by
    obtain ⟨hothers, hfree⟩ := h.scrubBlock b hb
    exact ⟨hothers .repair (by decide), hothers .copy (by decide), Bool.eq_false_iff.2 (mt (State.draining_iff s b).1 hfree)⟩

theorem mem_tags {s : State} {e : Engine} {r : Replica} {x : IssueEntry} (hx : x ∈ (s.port r).list) (ho : x.op.owner = .engine e) :
    (x.op.block, x.ownerGone) ∈ (s.seat e).tags r := mem_engineTags.2 ⟨x, hx, ho, rfl⟩

theorem engineTags_length_le_one (e : Engine) (l : List IssueEntry) :
    (engineTags e l).length ≤ 1 ↔ l.Pairwise fun x y => ¬(x.op.owner = .engine e ∧ y.op.owner = .engine e) := by
  induction l with
  | nil => simp [engineTags]
  | cons x l ih =>
    rw [List.pairwise_cons, ← ih]
    by_cases hx : x.op.owner = .engine e
    · have hnil : (engineTags e l).length = 0 ↔ ∀ y ∈ l, y.op.owner ≠ .engine e := by
        simp [engineTags, List.filter_eq_nil_iff]
      rw [engineTags_cons_of_owner hx, List.length_cons]
      constructor
      · intro h
        exact ⟨fun y hy hn => hnil.1 (by omega) y hy hn.2, by omega⟩
      · rintro ⟨h, -⟩
        have := hnil.2 fun y hy hn => h y hy ⟨hx, hn⟩
        omega
    · rw [engineTags_cons_of_other hx]
      simp [hx]

theorem State.HoldsWf.seat {s : State} (h : s.HoldsWf) (e : Engine) : (s.seat e).Holds (nothingOwed e) where
  block := fun b hb => by
    cases e with
    | repair => exact h.repairBlock b hb
    | copy => exact h.copyBlock b hb
    | scrub => exact h.scrubBlock b hb
  live := fun r b hb => by
    obtain ⟨x, hx, ho, heq⟩ := mem_engineTags.1 hb
    obtain ⟨rfl, hgone⟩ := Prod.mk.inj heq
    exact h.live e r x hx ho hgone
  gone := fun r b hb => by
    obtain ⟨x, hx, ho, heq⟩ := mem_engineTags.1 hb
    obtain ⟨rfl, hgone⟩ := Prod.mk.inj heq
    exact h.gone e r x hx ho hgone
  alike := fun r q p p' hp hp' => by
    obtain ⟨x, hx, ho, rfl⟩ := mem_engineTags.1 hp
    obtain ⟨y, hy, ho', rfl⟩ := mem_engineTags.1 hp'
    exact h.alike e r q x hx y hy ho ho'
  single := fun r => (engineTags_length_le_one e _).2 (h.single e r)
  drains := fun b hb => .inl ((State.opsRemain_iff s e b).1 (h.drains e b hb))

theorem State.EnginesWf.steady_of_holdsWf {s : State} (h : s.EnginesWf) (hp : s.PortsWf) (hh : s.HoldsWf) : s.Steady ⟨True, True⟩ :=
  ⟨h.apart, fun _ => h.scrubBlock', fun e _ => h.seat e, nofun, fun _ => hh.undrained, fun _ e _ => hh.seat e, nofun, fun _ => hp.empty⟩

theorem State.Sound.holdsWf {s : State} (h : s.Steady ⟨True, True⟩) : s.HoldsWf where
  undrained := h.undrained trivial
  repairBlock := (h.holds trivial .repair nofun).block
  copyBlock := (h.holds trivial .copy nofun).block
  scrubBlock := (h.holds trivial .scrub nofun).block
  live := fun e r x hx ho hgone => (h.holds trivial e nofun).live r x.op.block (hgone ▸ mem_tags hx ho)
  gone := fun e r x hx ho hgone => (h.holds trivial e nofun).gone r x.op.block (hgone ▸ mem_tags hx ho)
  alike := fun e r q _ hx _ hy ho ho' => (h.holds trivial e nofun).alike r q _ _ (mem_tags hx ho) (mem_tags hy ho')
  single := fun e r => (engineTags_length_le_one e _).1 ((h.holds trivial e nofun).single r)
  drains := fun e b hb => (State.opsRemain_iff s e b).2 (((h.holds trivial e nofun).drains b hb).resolve_right id)

/-! ## An engine that decides -/

/-- An engine holds its block, and all its entries have left or are marked: its op has all its answers. -/
structure State.Busy (e : Engine) (full : Scope) (s : State) : Prop where
  held : (s.lock e).held.isSome = true
  claim : (s.lock e).claim = none
  gone : full.entries → (s.seat e).AllGone

theorem State.Sound.busy {e : Engine} {s : State} (h : s.Steady full) (hop : (s.engineOp e).complete = true) : s.Busy e full := by
  have hs := h.seat e nofun
  have hheld := hs.op fun hn => by
    rw [show s.engineOp e = .none from hn] at hop
    cases hop
  refine ⟨hheld, hs.one hheld, fun hf r b hb => ?_⟩
  obtain ⟨-, answers, hout, hpending⟩ := (h.holds hf e nofun).live r b hb
  rw [show s.engineOp e = .out answers from hout] at hop
  have hall := (Tri.isEmpty_iff _).1 (show (answered answers .pending).isEmpty = true from hop) r
  simp [answered, hpending] at hall

section BusyKept

variable {e : Engine} {s t : State}

theorem State.Busy.of_locks (h : s.Busy e full) (hlock : t.lock e = s.lock e) (htags : ∀ r, ((t.seat e).tags r).Sublist ((s.seat e).tags r)) :
    t.Busy e full :=
  ⟨by rw [hlock]; exact h.held, by rw [hlock]; exact h.claim, fun hf r b hb => h.gone hf r b ((htags r).subset hb)⟩

theorem State.Busy.of_same (h : s.Busy e full) (hlock : t.lock e = s.lock e) (hport : ∀ r, t.port r = s.port r) : t.Busy e full :=
  h.of_locks hlock fun r => by
    change (engineTags e (t.port r).list).Sublist _
    rw [hport]
    exact List.Sublist.refl _

theorem busy_frees (e : Engine) (full : Scope) : FreesKeep (State.Busy e full) where
  table := fun _ _ hk hl _ hs => hs.of_same (State.lock_congr hl e) (hk.port (by decide))
  grant := fun e' b s hclaim _ hs => by
    have he : e ≠ e' := fun he => by rw [← he, hs.claim] at hclaim; cases hclaim
    refine hs.of_same ?_ (State.grantClaim_port e' b s)
    rw [State.grantClaim_lock, if_neg he, if_neg fun hn => by rw [← hn.1, hs.claim] at hn; exact nomatch hn.2]
  undrain := fun e' b s _ _ hs => by
    have hlock := State.lock_setLock e' e { s.lock e' with draining := none } s
    split at hlock
    · rename_i he
      subst he
      exact ⟨by rw [hlock]; exact hs.held, by rw [hlock]; exact hs.claim, hs.gone⟩
    · exact hs.of_same hlock fun _ => rfl

theorem State.setPort_busy (h : s.Busy e full) (r : Replica) (p : Port)
    (hp : (engineTags e p.list).Sublist (engineTags e (s.port r).list)) : (s.setPort r p).Busy e full :=
  h.of_locks rfl fun q => by
    rw [State.setPort_seat]
    simp only
    split
    · rename_i hq; rw [hq]; exact hp
    · exact List.Sublist.refl _

theorem busy_hands (e : Engine) (full : Scope) : HandsKeep (State.Busy e full) where
  left := fun e' block _ => (busy_frees e full).goneLeft e' block
  answered := fun _ _ _ _ hs => hs.of_same rfl fun _ => rfl
  op := fun e' r x s hs => by
    have hk := State.setEngineOp_keeps e' ((s.engineOp e').recordAnswer r x) s
    exact hs.of_same (hk.lock (by decide) e) (hk.port (by decide))

theorem busy_retire (e : Engine) (full : Scope) : RetireKeep (State.Busy e full) where
  outer := fun _ _ hk hs => hs.of_same (hk.lock (by decide) e) (hk.port (by decide))
  runCount := fun _ _ hs => hs.of_same rfl fun _ => rfl
  mask := fun _ _ hs => hs.of_same rfl fun _ => rfl
  beginAbort := fun r _ hs => (busy_hands e full).beginAbort (fun r _ hs => State.setPort_busy hs r _ (List.nil_sublist _))
    (fun r _ hs => State.setPort_busy hs r _ (List.Sublist.refl _)) r hs

/-- The end of a copy leaves another engine at its decision. -/
theorem State.Busy.copyStopped (he : e ≠ .copy) (h : s.Busy e full) (o : CopyOutcome) : (s.copyStopped o).Busy e full := by
  have hwithdrawn (t : State) (ht : t.Busy e full) : (t.withdrawn .copy).Busy e full := by
    refine ht.of_locks ((State.withdrawn_lock .copy e t).trans (if_neg he)) fun r => ?_
    change (engineTags e ((t.withdrawn .copy).port r).list).Sublist _
    rw [State.withdrawn_port, engineTags_markGone, if_neg he]
    exact List.Sublist.refl _
  have hset (t : State) (x : EngineLock) (ht : t.Busy e full) : (t.setLock .copy x).Busy e full :=
    ht.of_same ((State.lock_setLock .copy e x t).trans (if_neg he)) fun _ => rfl
  have hstart : State.Busy e full ({ s with copy := s.copy.ended o } : State).copyForget := h.of_same rfl fun _ => rfl
  exact (busy_frees e full).releaseLock .copy (fun _ => hwithdrawn _ hstart) (fun _ _ _ => hset _ _ (hwithdrawn _ hstart))
    fun _ _ _ => hset _ _ (hwithdrawn _ hstart)

theorem busy_side (he : e ≠ .copy) : SideKeep (State.Busy e full) where
  toRetireKeep := busy_retire e full
  copyStopped := fun o _ hs => hs.copyStopped he o

end BusyKept

/-- A charge retires its replica only while others vote, and ends no copy (R5). -/
theorem RetireKeep.reports {P : State → Prop} (h : RetireKeep P) : ReportsKeep P where
  record := fun e s _ => h.frame (State.recordEvent_keeps e s) (by decide)
  dataLoss := fun s => h.frame (State.raise_keeps .dataLoss s) (by decide)
  insert := fun b m n s _ => h.frame (State.insertRepair_keeps b m n s) (by decide)
  charge := fun r k s hs => by
    have hcharged : P (s.applyCharge r k) := h.frame (State.applyCharge_keeps r k s) (by decide) hs
    unfold State.charge
    split
    · by_cases hretire : (s.applyCharge r k).mustRetire r
      · rw [State.autoRetire_of_mustRetire hretire]; exact h.retireCore _ _ hcharged
      · rw [State.autoRetire_of_not_mustRetire hretire]; exact hcharged
    · exact hs

/-- The engines between two operations, one of them at its decision. -/
def State.Deciding (e : Engine) (full : Scope) (s : State) : Prop := s.Steady full ∧ s.Busy e full

theorem deciding_reports (e : Engine) (full : Scope) : ReportsKeep (State.Deciding e full) :=
  (steady_side full).reports.and (busy_retire e full).reports

/-- What a decision leaves of its engine: another working phase, another op. -/
theorem State.Deciding.works {e : Engine} {s t : State} (h : s.Deciding e full) (hm : s.SeatMoved e t) (hphase : t.workingPhase e = true)
    (hblock : t.workBlock e = s.workBlock e) : t.Steady full := by
  obtain ⟨hs, hb⟩ := h
  have hlock : (t.seat e).lock = s.lock e := hm.lock
  refine hs.moved hm (fun _ => ⟨fun _ => by rw [hlock, hb.claim], fun hn => by simp [hlock, hb.claim] at hn, fun _ => hphase,
    fun _ => by rw [hlock]; exact hb.held⟩) (fun hf hn => ?_) nofun
  have hh := hs.holds hf e hn
  refine ⟨fun b hb' => ?_, fun r b hb' => ?_, fun r b hb' => ?_, ?_, ?_, fun b hb' => ?_⟩
  · rw [hlock] at hb'
    exact (hh.block b hb').trans hblock.symm
  · rw [hm.tags] at hb'
    exact absurd hb' (hb.gone hf r b)
  · rw [hm.tags] at hb'
    rw [hlock]
    exact hh.gone r b hb'
  · rw [hm.tags]; exact hh.alike
  · rw [hm.tags]; exact hh.single
  · rw [hlock] at hb'
    rw [hm.tags]
    exact hh.drains b hb'

theorem State.Deciding.of_seats {e : Engine} {s t : State} (h : s.Deciding e full) (hseats : ∀ e, t.seat e = s.seat e)
    (hports : ∀ r, t.port r = s.port r) : t.Deciding e full :=
  ⟨h.1.of_seats hseats (h.1.empty_of_ports hports), h.2.of_same (State.lock_eq_of_seat (hseats e)) hports⟩

/-- A decision releases its engine's lock, the engine's own part moved on before and after. -/
theorem State.Deciding.release {e : Engine} {s t u : State} (h : s.Deciding e full) (hm : s.SeatMoved e t)
    (hm' : (t.releaseLock e).SeatMoved e u) (hop : u.engineOp e = .none) : u.Steady full := by
  have hclaim : (t.lock e).claim = none := by rw [hm.lock]; exact h.2.claim
  exact (h.1.leave hm h.2.claim h.2.gone).releaseLock.settled (State.releaseLock_released hclaim).held hm' hop

/-! ## The decisions -/

theorem State.Deciding.endRepair {s : State} (h : s.Deciding .repair full) : s.endRepair.Steady full := by
  have hclaim : (({ s with repair := Repair.idle } : State).lock .repair).claim = none := h.2.claim
  exact h.release (State.SeatMoved.repair _ s) (State.SeatMoved.refl _ _) (State.releaseLock_released hclaim).op

theorem State.Deciding.endScrubRead {s : State} (h : s.Deciding .scrub full) : s.endScrubRead.Steady full :=
  h.release (State.SeatMoved.scrub _ s) (State.SeatMoved.scrub _ _) rfl

theorem State.Deciding.copyAdvance {s : State} (h : s.Deciding .copy full) : s.copyAdvance.Steady full := by
  have hmoved := State.SeatMoved.copy { s.copy with pointer := s.copy.pointer + 1, step := .claim, op := .none } s
  unfold State.copyAdvance
  simp only
  split
  · exact (steady_side full).toRetireKeep.copyEnd_of_stopped _ (h.1.copyStopped hmoved _)
  · have hrunning : s.copy.state = .running := ((State.workingPhase_iff s .copy).1 ((h.1.seat .copy nofun).working h.2.held)).1
    have hreleased := State.releaseLock_released (e := .copy)
      (s := { s with copy := { s.copy with pointer := s.copy.pointer + 1, step := .claim, op := .none } }) h.2.claim
    refine State.Sound.claim (h.release hmoved (State.SeatMoved.refl _ _) hreleased.op) hreleased.held hreleased.claim
      (hreleased.phase.trans ?_) hreleased.block nofun
    exact (State.claimingPhase_iff _ .copy).2 ⟨hrunning, rfl⟩

theorem State.Sound.decideRepair {s : State} (h : s.Steady full) (hop : s.repair.op.complete = true) : s.decideRepair.Steady full := by
  have hdeciding : s.Deciding .repair full := ⟨h, h.busy hop⟩
  refine State.decideRepair_keeps_of (deciding_reports .repair full)
    (fun r s hs => ⟨(steady_side full).targetFailure r hs.1, (busy_side (by decide)).targetFailure r hs.2⟩)
    (fun _ hs => hs.endRepair) (fun s x b hs => hs.of_seats (fun e => by cases e <;> rfl) fun _ => rfl)
    (fun s values hs _ => hs.works (State.SeatMoved.repair _ s) rfl rfl)
    (fun s hs => hs.works (State.SeatMoved.repair _ s) rfl rfl) (fun _ hs => hs.1) hdeciding

theorem State.Sound.decideCopy {s : State} (h : s.Steady full) (hop : s.copy.op.complete = true) : s.decideCopy.Steady full := by
  have hdeciding : s.Deciding .copy full := ⟨h, h.busy hop⟩
  refine State.decideCopy_keeps_of (deciding_reports .copy full) (fun _ hs => hs.copyAdvance)
    (fun s hs => (steady_side full).copyEnd _ hs.1) (fun s n hs => hs.of_seats (fun e => by cases e <;> rfl) fun _ => rfl)
    (fun s values target hs => hs.works (State.SeatMoved.copy _ s) ?_ rfl) (fun _ hs => hs.1) hdeciding
  have hrunning : s.copy.state = .running := ((State.workingPhase_iff s .copy).1 ((hs.1.seat .copy nofun).working hs.2.held)).1
  exact (State.workingPhase_iff _ .copy).2 ⟨hrunning, .inr rfl⟩

theorem State.Sound.decideScrub {s : State} (h : s.Steady full) (hop : s.scrub.op.complete = true) : s.decideScrub.Steady full :=
  State.decideScrub_keeps_of (P := State.Deciding .scrub full) (deciding_reports .scrub full) (fun _ hs => hs.endScrubRead)
    (fun _ hs => hs.1) ⟨h, h.busy hop⟩

theorem steady_slotDecisions (full : Scope) : SlotDecisionsKeep (State.Steady full) where
  reports := (steady_side full).reports
  remove := fun b r s => (steady_side full).toRetireKeep.frame (State.removeRepair_keeps b r s) (by decide)
  failure := fun r _ => (steady_side full).targetFailure r
  table := fun _ _ hk hl hs => hs.table hk hl
  free := fun b _ => (sound_frees none nothingOwed full).freeBlock b

theorem State.Sound.settle {s : State} (h : s.Steady full) : s.settle.Steady full := by
  refine State.settle_keeps_of (fun d s hd hs => ?_)
    (fun s n => (steady_ignores full).of_keeps (State.with_freeIndex_keeps s n) (by decide)) h
  cases d with
  | slot i => exact (steady_slotDecisions full).decideSlot i hs
  | repair => exact hs.decideRepair (Bool.and_eq_true _ _ ▸ hd).1
  | copy => exact hs.decideCopy (Bool.and_eq_true _ _ ▸ hd).1
  | scrub => exact hs.decideScrub hd

end Sys2Proof.Machine
end

section
/-! One step under the invariants of the engines: issued ops, resets, grants and takes, the ports' events, the walker's expiry, and
the command words. -/

namespace Sys2Proof.Machine

open Sys2Proof

variable {full : Scope}

/-! ## Operations that move no seat -/

theorem acceptFirst_tags (e : Engine) (l : List IssueEntry) : engineTags e (acceptFirst l) = engineTags e l := by
  induction l with
  | nil => rfl
  | cons x l ih =>
    rw [acceptFirst]
    by_cases hx : x.op.owner = .engine e
    · split
      · rw [engineTags_cons_of_owner hx, engineTags_cons_of_owner hx, ih]
      · rw [engineTags_cons_of_owner (x := { x with accepted := true }) hx, engineTags_cons_of_owner hx]
    · split
      · rw [engineTags_cons_of_other hx, engineTags_cons_of_other hx, ih]
      · rw [engineTags_cons_of_other (x := { x with accepted := true }) hx, engineTags_cons_of_other hx]

theorem Port.advance_tags (e : Engine) (n : Nat) (p : Port) : engineTags e (p.advance n).list = engineTags e p.list := by
  simp only [Port.advance, engineTags, List.filter_map, List.map_map]
  rfl

theorem State.advance_steady (n : Nat) {s : State} (h : s.Steady full) : (s.advance n).Steady full := by
  have hport (r : Replica) : (s.advance n).port r = (s.port r).advance n := by simp [State.advance, State.port]
  refine h.of_seats (fun e => ?_) fun hf r hstate => ?_
  · have htags (r : Replica) : engineTags e ((s.advance n).port r).list = (s.seat e).tags r := by
      rw [hport, Port.advance_tags]; rfl
    cases e <;> exact State.seat_eq rfl rfl rfl rfl rfl htags
  · rw [hport] at hstate ⊢
    simp [Port.advance, h.empty hf r hstate]

theorem State.afterReset_steady (straps : Straps) (levels : Tri Bool) (n : Nat) (q : List Instr) :
    (State.afterReset straps levels n q).Steady full := by
  have hlock (e : Engine) : (State.afterReset straps levels n q).lock e = EngineLock.empty := by cases e <;> rfl
  have hlist (r : Replica) : ((State.afterReset straps levels n q).port r).list = [] := by cases r <;> rfl
  have hop (e : Engine) : (State.afterReset straps levels n q).engineOp e = .none := by cases e <;> rfl
  have hdrains (b : Nat) : ¬(State.afterReset straps levels n q).Drains b := fun ⟨e, he⟩ => by rw [hlock] at he; cases he
  have hseat (e : Engine) : ((State.afterReset straps levels n q).seat e).lock = EngineLock.empty := hlock e
  have htags (e : Engine) (r : Replica) : ((State.afterReset straps levels n q).seat e).tags r = [] := by
    change engineTags e ((State.afterReset straps levels n q).port r).list = []
    rw [hlist]
    rfl
  refine ⟨fun e _ _ _ hb => ?_, fun b hb => ?_, fun e _ => ?_, nofun, fun _ _ b _ => hdrains b, fun _ e _ => ?_, nofun,
    fun _ r _ => hlist r⟩
  · rw [hlock] at hb; cases hb
  · rw [hlock] at hb; cases hb
  · refine ⟨fun _ => ?_, fun hn => ?_, fun hn => ?_, fun hn => absurd (hop e) hn⟩
    · rw [hseat]; rfl
    · rw [hseat] at hn; cases hn
    · rw [hseat] at hn; cases hn
  · refine ⟨fun b hb => ?_, fun r b hb => ?_, fun r b hb => ?_, fun r q p p' hp => ?_, fun r => ?_, fun b hb => ?_⟩
    · rw [hseat] at hb; rcases hb with hb | hb <;> cases hb
    · rw [htags] at hb; cases hb
    · rw [htags] at hb; cases hb
    · rw [htags] at hp; cases hp
    · rw [htags]; exact Nat.zero_le 1
    · rw [hseat] at hb; cases hb

/-! ## Issued ops (R88, R102, R103) -/

theorem State.issue_tags (op : Op) (named : ReplicaSet) (s : State) (e : Engine) (r : Replica) :
    engineTags e ((s.issue op named).port r).list =
      if op.owner = .engine e ∧ named.get r = true ∧ (s.port r).state = .ready then
        engineTags e (s.port r).list ++ [(op.block, false)]
      else engineTags e (s.port r).list := by
  rw [State.issue_port]
  have hentry : engineTags e [s.entry op] = if op.owner = .engine e then [(op.block, false)] else [] := by
    split
    · rename_i h; rw [engineTags_cons_of_owner h]; rfl
    · rename_i h; rw [engineTags_cons_of_other h]; rfl
  by_cases hissued : named.get r = true ∧ (s.port r).state = .ready
  · rw [if_pos (by simpa using hissued)]
    simp only
    rw [engineTags_append, hentry]
    by_cases ho : op.owner = .engine e
    · rw [if_pos ho, if_pos ⟨ho, hissued⟩]
    · rw [if_neg ho, if_neg fun hn => ho hn.1, List.append_nil]
  · rw [if_neg (by simpa using hissued), if_neg fun hn => hissued hn.2]

theorem State.issue_empty (op : Op) (named : ReplicaSet) {s : State} (h : s.Steady full) (hf : full.ports) (r : Replica) :
    ((s.issue op named).port r).state ≠ .ready → ((s.issue op named).port r).list = [] := by
  rw [State.issue_port]
  split
  · rename_i hissued
    rw [Bool.and_eq_true, beq_iff_eq] at hissued
    exact fun hn => absurd hissued.2 hn
  · exact h.empty hf r

theorem State.issueSlot_steady (i : SlotId) (sl : Slot) (named : ReplicaSet) {s : State} (h : s.Steady full) :
    (s.countUpstream.issue (sl.op i) named).Steady full := by
  have hcounted : s.countUpstream.Steady full := h.of_seats (fun e => by cases e <;> rfl) h.empty
  refine hcounted.of_seats (fun e => ?_) (State.issue_empty _ named hcounted)
  have htags (r : Replica) : engineTags e ((s.countUpstream.issue (sl.op i) named).port r).list = (s.countUpstream.seat e).tags r :=
    (State.issue_tags _ named s.countUpstream e r).trans (if_neg fun hn => nomatch hn.1)
  cases e <;> exact State.seat_eq rfl rfl rfl rfl rfl htags

/-- An engine's op is issued under its lock, for its block, with no entry of its own outstanding. -/
theorem State.issueEngine_steady {e : Engine} {op : Op} {named : ReplicaSet} {s : State} (hcandidate : s.engineCandidate e = true)
    (howner : op.owner = .engine e) (hblock : op.block = s.workBlock e) (h : s.Steady full) :
    (s.engineIssued e op named).Steady full := by
  obtain ⟨hheld, -, hops⟩ := (State.engineCandidate_iff s e).1 hcandidate
  have hnone (r : Replica) : (s.seat e).tags r = [] := by
    refine List.eq_nil_iff_forall_not_mem.2 fun p hp => ?_
    obtain ⟨x, hx, ho, -⟩ := mem_engineTags.1 hp
    exact (State.hasOps_eq_false_iff s e).1 hops r x hx ho
  have hkeeps := State.engineIssued_keeps e op named s
  have hport (r : Replica) : (s.engineIssued e op named).port r = (s.issue op named).port r := by
    unfold State.engineIssued
    rw [(State.setEngineOp_keeps e _ _).port (by decide)]
    rfl
  have htags (e' : Engine) (r : Replica) : engineTags e' ((s.engineIssued e op named).port r).list =
      if e' = e ∧ named.get r = true ∧ (s.port r).state = .ready then [(op.block, false)] else (s.seat e').tags r := by
    rw [hport, State.issue_tags]
    by_cases he : e' = e
    · subst he
      have hnil : engineTags e' (s.port r).list = [] := hnone r
      simp only [howner, true_and, hnil, List.nil_append, hnone]
    · rw [if_neg fun hn => he (Owner.engine.inj (howner.symm.trans hn.1)).symm, if_neg fun hn => he hn.1]
      rfl
  have hseat : (s.engineIssued e op named).seat e =
      { s.seat e with
        op := .out (s.grantAnswers named)
        tags := fun r => if e = e ∧ named.get r = true ∧ (s.port r).state = .ready then [(op.block, false)] else (s.seat e).tags r } := by
    cases e <;> exact State.seat_eq rfl rfl rfl rfl rfl (htags _)
  have hs := h.seat e nofun
  refine h.move e (hkeeps.lock (by decide) e) (fun e' he => ?_) (fun _ => ?_) (fun hf _ => ?_) nofun fun hf r => ?_
  · have hsame (r : Replica) := (htags e' r).trans (if_neg fun hn => he hn.1)
    cases e <;> cases e' <;> first | exact absurd rfl he | exact State.seat_eq rfl rfl rfl rfl rfl hsame
  · rw [hseat]
    exact ⟨hs.one, hs.claiming, hs.working, fun _ => hheld⟩
  · have hh := h.holds hf e nofun
    have hmem {r : Replica} {p : Nat × Bool}
        (hp : p ∈ if e = e ∧ named.get r = true ∧ (s.port r).state = .ready then [(op.block, false)] else (s.seat e).tags r) :
        p = (op.block, false) ∧ named.get r = true ∧ (s.port r).state = .ready := by
      split at hp
      · rename_i hn; exact ⟨List.mem_singleton.1 hp, hn.2⟩
      · rw [hnone] at hp; cases hp
    rw [hseat]
    refine ⟨hh.block, fun r b hb => ?_, fun r b hb => ?_, fun r q p p' hp hp' => ?_, fun r => ?_, fun b hb => ?_⟩
    · obtain ⟨hp, hnamed, hready⟩ := hmem hb
      obtain ⟨b₀, hb₀⟩ := Option.isSome_iff_exists.1 hheld
      have hb' : b₀ = b := (hh.block b₀ (.inl hb₀)).trans (hblock.symm.trans (congrArg Prod.fst hp).symm)
      refine ⟨hb' ▸ hb₀, s.grantAnswers named, rfl, ?_⟩
      simp [State.grantAnswers, hnamed, hready]
    · cases (hmem hb).1
    · rw [(hmem hp).1, (hmem hp').1]
    · change (ite _ _ _ : List (Nat × Bool)).length ≤ 1
      split
      · exact Nat.le_refl 1
      · rw [hnone]; exact Nat.zero_le 1
    · obtain ⟨r, g, hg⟩ := (hh.drains b hb).resolve_right id
      rw [hnone] at hg
      cases hg
  · rw [hport]
    exact State.issue_empty op named h hf r

/-! ## An engine that works at nothing -/

theorem State.Sound.lock_none_of_phase {s : State} (h : s.Steady full) {e : Engine} (hclaiming : s.claimingPhase e = false)
    (hworking : s.workingPhase e = false) : (s.lock e).held = none ∧ (s.lock e).claim = none := by
  have hs := h.seat e nofun
  constructor
  · rw [← Option.not_isSome_iff_eq_none]
    exact fun hn => absurd (hs.working hn) (by rw [show (s.seat e).working = false from hworking]; decide)
  · rw [← Option.not_isSome_iff_eq_none]
    exact fun hn => absurd (hs.claiming hn) (by rw [show (s.seat e).claiming = false from hclaiming]; decide)

theorem State.Sound.op_none {s : State} (h : s.Steady full) {e : Engine} (hheld : (s.lock e).held = none) : s.engineOp e = .none := by
  by_contra hn
  have := (h.seat e nofun).op hn
  rw [show (s.seat e).lock.held = none from hheld] at this
  cases this

/-- REPAIR_TAKE makes its claim from IDLE (R115). -/
theorem State.take_steady (head : QueueEntry) (rest : List QueueEntry) {s : State} (hidle : s.repair.phase = .idle)
    (h : s.Steady full) : ((s.headTaken head rest).claim .repair head.block).Steady full := by
  have hphases : s.claimingPhase .repair = false ∧ s.workingPhase .repair = false := by
    simp [State.claimingPhase, State.workingPhase, hidle]
  obtain ⟨hheld, hclaim⟩ := h.lock_none_of_phase hphases.1 hphases.2
  have hqueue : (s.setQueue rest).Steady full := (steady_ignores full).of_keeps (State.setQueue_keeps rest s) (by decide) h
  have htaken : (s.headTaken head rest).Steady full :=
    hqueue.moved_idle (State.SeatMoved.repair (s.repairOf head) (s.setQueue rest)) hheld hclaim rfl
  exact htaken.claim hheld hclaim rfl rfl nofun

/-- The copy engine starts a copy from IDLE (R143, R149). -/
theorem State.Sound.startCopy {s : State} (h : s.Steady full) (hidle : s.copy.state = .idle) (c : Copy) (hop : c.op = .none) :
    State.Steady full { s with copy := c } ∧ (s.lock .copy).held = none ∧ (s.lock .copy).claim = none := by
  have hphases : s.claimingPhase .copy = false ∧ s.workingPhase .copy = false := by
    simp [State.claimingPhase, State.workingPhase, hidle]
  obtain ⟨hheld, hclaim⟩ := h.lock_none_of_phase hphases.1 hphases.2
  exact ⟨h.moved_idle (State.SeatMoved.copy c s) hheld hclaim hop, hheld, hclaim⟩

theorem State.targetUp_steady (r : Replica) {s : State} (h : s.Steady full) : (s.targetUp r).Steady full := by
  unfold State.targetUp
  split
  · rename_i hup
    have hphases : s.claimingPhase .copy = false ∧ s.workingPhase .copy = false := by
      simp [State.claimingPhase, State.workingPhase, hup.1]
    obtain ⟨hheld, hclaim⟩ := h.lock_none_of_phase hphases.1 hphases.2
    have hop : s.copy.op = .none := h.op_none hheld
    have hrunning := h.moved_idle (State.SeatMoved.copy { s.copy with state := .running, step := .claim } s) hheld hclaim hop
    exact hrunning.claim hheld hclaim rfl rfl nofun
  · exact h

/-! ## The walker (R41, R132 to R134) -/

theorem State.skipScrub_steady {s : State} (h : s.Steady full) (hheld : (s.lock .scrub).held = none) : s.skipScrub.Steady full := by
  have hseat (e : Engine) := s.skipScrub_seat e
  have hlock (e : Engine) := State.skipScrub_lock e s
  obtain ⟨hapart, hscrub, hundrained⟩ := h.of_fewer_locks (t := s.skipScrub)
    (fun e b hb => by rw [hlock] at hb; split at hb <;> simp_all) (fun b hb => by rw [hlock] at hb; split at hb <;> simp_all)
    (fun e b hb => by rw [hlock] at hb; split at hb <;> simp_all)
  refine ⟨hapart, hscrub, fun e hn => ?_, nofun, hundrained, fun hf e hn => ?_, nofun, h.empty⟩
  · rw [hseat]
    split
    · exact Seat.Wf.refused hheld _
    · exact h.seat e hn
  · rw [hseat]
    split
    · rename_i he; exact he ▸ (h.holds hf .scrub nofun).refused hheld _
    · exact h.holds hf e hn

theorem Scrub.choose_spec {w x : Scrub} {t : Regions} {n : Nat} (h : w.choose t n = some x) : x.state = .claiming ∧ x.op = w.op := by
  unfold Scrub.choose at h
  split at h
  · cases h; exact ⟨rfl, rfl⟩
  · obtain ⟨b, -, rfl⟩ := Option.map_eq_some_iff.1 h
    exact ⟨rfl, rfl⟩

theorem State.scrubClaim_steady {s : State} (h : s.Steady full) (hheld : (s.lock .scrub).held = none)
    (hclaim : (s.lock .scrub).claim = none) (hphase : s.scrub.state = .claiming) : s.scrubClaim.Steady full := by
  unfold State.scrubClaim
  simp only
  split
  · exact State.skipScrub_steady h hheld
  · rename_i hfree
    simp only [Bool.or_eq_true, not_or, State.aheadOfScrub, State.heldByOther_iff, State.draining_iff] at hfree
    exact h.claim hheld hclaim ((State.claimingPhase_iff s .scrub).2 hphase) rfl fun _ =>
      ⟨fun e he hb => hfree.1.1 ⟨e, he, hb⟩, hfree.2⟩

theorem State.scrubExpiry_steady {s : State} (hstate : s.scrub.state = .waiting ∨ s.scrub.state = .paused) (h : s.Steady full) :
    s.scrubExpiry.Steady full := by
  have hphases : s.claimingPhase .scrub = false ∧ s.workingPhase .scrub = false := by
    rcases hstate with hstate | hstate <;> simp [State.claimingPhase, State.workingPhase, hstate]
  obtain ⟨hheld, hclaim⟩ := h.lock_none_of_phase hphases.1 hphases.2
  have hop : s.scrub.op = .none := h.op_none hheld
  have hmoved (w : Scrub) (hw : w.op = s.scrub.op) : State.Steady full { s with scrub := w } :=
    h.moved_idle (State.SeatMoved.scrub w s) hheld hclaim (hw.trans hop)
  unfold State.scrubExpiry
  split_ifs
  · exact hmoved _ rfl
  · exact hmoved _ rfl
  · split
    · exact hmoved _ rfl
    · rename_i w hw
      obtain ⟨hclaiming, hsame⟩ := Scrub.choose_spec hw
      exact State.scrubClaim_steady (hmoved w hsame) hheld hclaim hclaiming

/-! ## The step -/

theorem State.releaseReset_keeps (s : State) : Keeps [.pins, .alerts] s s.releaseReset := by
  intro p hp; cases p <;> first | rfl | exact absurd hp (by decide)

theorem State.declareDead_steady (r : Replica) {s : State} (h : s.Steady full) : (s.declareDead r).Steady full := by
  unfold State.declareDead
  split
  · exact (steady_side full).retire r _ h
  · exact (steady_side full).retire r _ h
  · exact (steady_side full).targetFailure r h
  · exact h

/-! ## The command words -/

theorem Scrub.retime_same (w : Scrub) (on : Bool) (n : Nat) :
    (w.retime on n).op = w.op ∧ (w.retime on n).pointer = w.pointer
      ∧ ((w.retime on n).state == .claiming) = (w.state == .claiming) ∧ ((w.retime on n).state == .reading) = (w.state == .reading) := by
  unfold Scrub.retime
  simp only
  split <;> rename_i hstate <;> (try split_ifs) <;> simp [hstate]

theorem State.writeTiming_steady (v : Word) {s : State} (h : s.Steady full) : (s.writeTiming v).2.Steady full := by
  unfold State.writeTiming
  simp only
  split
  · obtain ⟨hop, hpointer, hclaiming, hreading⟩ := s.scrub.retime_same (timingOperand v).scrubOn (timingOperand v).scrubInterval
    refine h.of_seats (fun e => ?_) h.empty
    cases e with
    | repair => rfl
    | copy => rfl
    | scrub => exact State.seat_eq rfl hop hpointer hclaiming hreading fun _ => rfl
  · exact h

theorem State.commandRetire_steady (v : Word) {s : State} (h : s.Steady full) : (s.commandRetire v).2.Steady full := by
  unfold State.commandRetire
  split
  · exact h
  · split
    · exact h
    · exact (steady_side full).retire _ _ h

theorem State.commandRebuild_steady (v : Word) {s : State} (h : s.Steady full) : (s.commandRebuild v).2.Steady full := by
  refine State.commandRebuild_keeps_of h (fun r hidle _ => ?_) v
  have hstarted : (s.startRebuild r).Steady full :=
    (steady_ignores full).of_keeps (State.setAccount_keeps r _ _) (by decide) (h.startCopy hidle _ rfl).1
  unfold State.rebuildPort
  split
  · exact (steady_side full).beginAbort r _ hstarted
  · exact hstarted
  · exact hstarted

theorem State.commandFill_steady (v : Word) {s : State} (h : s.Steady full) : (s.commandFill v).2.Steady full := by
  refine State.commandFill_keeps_of h (fun n hidle _ => ?_) v
  obtain ⟨hstarted, hheld, hclaim⟩ := h.startCopy hidle (s.startFill n).copy rfl
  have hmarked : (s.startFill n).Steady full := hstarted.of_seats (fun e => by cases e <;> rfl) hstarted.empty
  have hpurged : (s.fillPurged n).Steady full := (steady_ignores full).of_keeps (State.purgeQueue_keeps _ _ _) (by decide) hmarked
  exact hpurged.claim hheld hclaim rfl rfl nofun

theorem State.commandCopyAbort_steady {s : State} (h : s.Steady full) : s.commandCopyAbort.2.Steady full := by
  unfold State.commandCopyAbort
  split
  · exact h
  · exact (steady_side full).copyEnd .abortedCommand h

/-- An engine abandons its work, and its own part is made anew (R128, R139). -/
theorem State.Sound.abandon {e : Engine} {s t : State} (h : s.Steady full) (hm : (s.abandon e).SeatMoved e t) (hop : t.engineOp e = .none) :
    t.Steady full := by
  have hclaim : ((s.withdrawn e).lock e).claim = none := by rw [State.withdrawn_lock, if_pos rfl]
  exact (h.withdraw (State.SeatMoved.refl e s)).releaseLock.settled (State.releaseLock_released hclaim).held hm hop

/-! ## Soft reset (R202) -/

/-- The alert unit's first part and the accounts of a soft reset (R23, R188). -/
def State.resetHealth (s : State) : State := s.softClearAlerts.softResetAccounts

/-- The copy engine's part follows. -/
def State.resetCopy (s : State) : State := s.resetHealth.softResetCopy

/-- The queue's and the repair engine's parts follow. -/
def State.resetRepair (s : State) : State := s.resetCopy.softResetRepair

/-- The walker's part follows. -/
def State.resetScrub (s : State) : State := s.resetRepair.softResetScrub

/-- The records, the level conditions and the session close the soft reset. -/
def State.resetAll (s : State) : State := s.resetScrub.softResetRecords.retakeConditions.closeSession

theorem State.commandSoftReset_eq_resetAll (s : State) : s.commandSoftReset = (.done, s.resetAll) := s.commandSoftReset_eq

theorem State.resetHealth_keeps (s : State) : Keeps [.alerts, .health] s s.resetHealth :=
  (State.softResetAccounts_keeps _).after (by decide) ((State.softClearAlerts_keeps s).mono (by decide))

theorem State.resetAll_keeps (s : State) : Keeps [.records, .alerts, .session] s.resetScrub s.resetAll :=
  (State.closeSession_keeps _).after (by decide) ((State.retakeConditions_keeps _).after (by decide)
    ((State.softResetRecords_keeps _).mono (by decide)))

section SoftReset

variable {s : State} (h : s.Steady full)
include h

theorem State.Sound.resetHealth : s.resetHealth.Steady full := (steady_ignores full).of_keeps s.resetHealth_keeps (by decide) h

theorem State.Sound.resetCopy : s.resetCopy.Steady full := by
  have hhealth := h.resetHealth
  unfold State.resetCopy State.softResetCopy
  split
  · exact hhealth
  · exact (steady_side full).copyEnd _ hhealth

theorem State.Sound.resetQueue : (s.resetCopy.setQueue []).Steady full :=
  (steady_ignores full).of_keeps (State.setQueue_keeps [] _) (by decide) h.resetCopy

theorem State.Sound.resetRepair : s.resetRepair.Steady full := h.resetQueue.abandon (State.SeatMoved.repair Repair.idle _) rfl

theorem State.Sound.resetScrub : s.resetScrub.Steady full := h.resetRepair.abandon (State.SeatMoved.scrub _ _) rfl

theorem State.Sound.resetAll : s.resetAll.Steady full := (steady_ignores full).of_keeps s.resetAll_keeps (by decide) h.resetScrub

end SoftReset

theorem State.writeWord_steady (k : Nat) (v : Word) (s : State) (h : s.Steady full) : (s.writeWord k v).2.Steady full := by
  refine State.writeWord_of_owners (steady_ignores full) [21, 40, 41, 42, 43, 49] (by decide) (fun k hk hs => ?_) k h
  simp only [List.mem_cons, List.not_mem_nil, or_false] at hk
  rcases hk with rfl | rfl | rfl | rfl | rfl | rfl
  · exact State.writeTiming_steady v hs
  · exact State.commandRetire_steady v hs
  · exact State.commandRebuild_steady v hs
  · exact State.commandFill_steady v hs
  · exact State.commandCopyAbort_steady hs
  · exact State.Sound.resetAll hs

theorem steady_steps (full : Scope) (hfull : full.entries → full.ports) : StepsKeep (State.Steady full) where
  reports := (steady_side full).reports
  counters := fun _ _ hk => (steady_ignores full).of_keeps hk (by decide)
  table := fun _ _ hk hl hs => hs.table hk hl
  reset := State.afterReset_steady
  release := fun s => (steady_ignores full).of_keeps (State.releaseReset_keeps s) (by decide)
  advance := fun n _ => State.advance_steady n
  judge := fun r b s => (steady_ignores full).of_keeps (State.judgeWrite_keeps r b s) (by decide)
  result := fun k o s => (steady_ignores full).of_keeps (State.setResult_keeps k o s) (by decide)
  restart := fun s => (steady_ignores full).of_keeps (State.restartIdle_keeps s) (by decide)
  write := State.writeWord_steady
  settle := fun _ hs => hs.settle
  issueSlot := fun i sl named _ => State.issueSlot_steady i sl named
  issueEngine := fun _ _ _ _ hc ho hb => State.issueEngine_steady hc ho hb
  repairTarget := fun x s hs => hs.of_seats (fun e => by cases e <;> rfl) hs.empty
  grantClaim := fun e b s hclaim hwins hs => hs.grant hclaim ((State.claimWins_iff s e b).1 hwins).1
  skipScrub := fun b s hclaim hs => State.skipScrub_steady hs ((hs.seat .scrub nofun).held_of_claim hclaim)
  take := fun head rest _ hidle _ => State.take_steady head rest hidle
  bankAccept := fun r s hready hs => hs.setPort (fun _ e => acceptFirst_tags e _) fun _ hn => absurd hready hn
  answer := fun _ x _ _ _ hready hlist hs => State.answered_steady hs hready hlist x
  emptyPort := fun r _ => State.emptyPort_steady r
  assertAbort := fun r s hs => hs.setPort (fun _ _ => rfl) fun hf => hs.empty hf r
  abortLevel := fun r _ s hs => hs.setPort (fun _ _ => rfl) fun hf => hs.empty hf r
  endAbort := fun r s ha hs => hs.setPort (fun _ _ => rfl) fun hf _ => hs.empty hf r (by rw [ha]; decide)
  targetUp := fun r _ => State.targetUp_steady r
  portOff := fun r s ha hs => hs.setPort (fun hf _ => by rw [hs.empty (hfull hf) r (by rw [ha]; decide)]) fun _ _ => rfl
  declareDead := fun r _ => State.declareDead_steady r
  decay := fun s => (steady_ignores full).of_keeps (State.decay_keeps s) (by decide)
  scrubExpiry := fun _ => State.scrubExpiry_steady
  sessionExpiry := fun s hs => (steady_ignores full).of_keeps (State.raise_keeps _ _) (by decide)
    ((steady_ignores full).of_keeps (State.closeSession_keeps s) (by decide) hs)

/-- Settles O60: the lock set alone, and with the ports' invariant what locks, draining holds and entries have to do with each other. -/
theorem enginesInvariantKept : Obligations.EnginesInvariantKept := by
  unfold Obligations.EnginesInvariantKept
  exact fun s t hs ht => ⟨((steady_steps ⟨False, False⟩ id).step hs.steady ht).enginesWf,
    fun hp hh => ((steady_steps ⟨True, True⟩ id).step (hs.steady_of_holdsWf hp hh) ht).holdsWf⟩

end Sys2Proof.Machine
end

section
/-! Settling ends: each decision lowers the load of decisions that can follow, and the load never reaches the bound of the loop. -/

namespace Sys2Proof.Machine

open Sys2Proof

/-! ## The load -/

/-- A slot is ISSUED and does not await its fallback grant: it may have a decision to make (R37). -/
def State.undecided (s : State) (i : SlotId) : Bool :=
  match s.slot i with
  | some sl => sl.state == .issued && !sl.awaiting
  | none => false

/-- An op is granted, or has nobody to ask. -/
def OpStage.isOut : OpStage → Bool
  | .out _ => true
  | .none | .ready _ => false

/-- A pending claim of the repair engine can make one decision ready, by its grant (R117). -/
def State.claimLoad (s : State) : Nat := (s.lock .repair).claim.isSome.toNat

/-- The op of the repair engine has one decision to come, and that of its WRITE a second one, of its VERIFY (R121). -/
def State.repairLoad (s : State) : Nat := s.repair.op.isOut.toNat + (s.repair.op.isOut && s.repair.phase == .write).toNat

def State.scrubLoad (s : State) : Nat := s.scrub.op.isOut.toNat

def State.copyLoad (s : State) : Nat := s.copy.op.isOut.toNat

/-- How many decisions can follow at most: each decision but the copy engine's own can make one of the copy engine ready. -/
def State.load (s : State) : Nat :=
  2 * (Finset.univ.filter fun i => s.undecided i = true).card + 2 * (s.claimLoad + s.repairLoad) + 2 * s.scrubLoad + s.copyLoad

theorem State.undecided_iff (s : State) (i : SlotId) :
    s.undecided i = true ↔ ∃ sl, s.slot i = some sl ∧ sl.state = .issued ∧ sl.awaiting = false := by
  unfold State.undecided
  cases s.slot i <;> simp

theorem State.repairLoad_le_one {s : State} (h : s.repair.phase ≠ .write) : s.repairLoad ≤ 1 := by
  have hphase : (s.repair.phase == .write) = false := by simpa using h
  rw [State.repairLoad, hphase, Bool.and_false]
  exact Bool.toNat_le _

theorem State.load_le (s : State) : s.load ≤ 41 := by
  have hslots : (Finset.univ.filter fun i : SlotId => s.undecided i = true).card ≤ 16 := Finset.card_le_univ _
  have hclaim : s.claimLoad ≤ 1 := Bool.toNat_le _
  have hrepair : s.repairLoad ≤ 2 := Nat.add_le_add (Bool.toNat_le _) (Bool.toNat_le _)
  have hscrub : s.scrubLoad ≤ 1 := Bool.toNat_le _
  have hcopy : s.copyLoad ≤ 1 := Bool.toNat_le _
  unfold State.load
  omega

/-! ## What no side effect of a decision raises -/

/-- Only these slots are undecided, and these are bounds of the loads of the repair engine and the walker. -/
structure State.Calms (slots : SlotId → Prop) (claim repair scrub : Nat) (s : State) : Prop where
  slots : ∀ i, s.undecided i = true → slots i
  claim : s.claimLoad ≤ claim
  repair : s.claimLoad + s.repairLoad ≤ repair
  scrub : s.scrubLoad ≤ scrub

theorem State.calms_self (s : State) : s.Calms (fun i => s.undecided i = true) s.claimLoad (s.claimLoad + s.repairLoad) s.scrubLoad :=
  ⟨fun _ => id, Nat.le_refl _, Nat.le_refl _, Nat.le_refl _⟩

variable {slots : SlotId → Prop} {claim repair scrub : Nat}

section Transfer

variable {s t : State}

theorem State.Calms.of_same (h : s.Calms slots claim repair scrub) (hslots : ∀ i, t.undecided i = true → s.undecided i = true)
    (hclaim : t.claimLoad ≤ s.claimLoad) (hrepair : t.repairLoad ≤ s.repairLoad) (hscrub : t.scrubLoad ≤ s.scrubLoad) :
    t.Calms slots claim repair scrub :=
  ⟨fun i hi => h.slots i (hslots i hi), hclaim.trans h.claim, (Nat.add_le_add hclaim hrepair).trans h.repair, hscrub.trans h.scrub⟩

theorem RequestsKept.undecided {lost : SlotId → Replica → Prop} (h : RequestsKept lost s t) {i : SlotId} (hi : t.undecided i = true) :
    s.undecided i = true := by
  obtain ⟨sl', ht, hstate, hawait⟩ := (State.undecided_iff t i).1 hi
  obtain ⟨hnone, hsome⟩ := h i
  cases hs : s.slot i with
  | none => rw [hnone hs] at ht; cases ht
  | some sl =>
    obtain ⟨sl'', ht', heq, hkept, hfree, -⟩ := hsome sl hs
    obtain rfl := Option.some.inj (ht.symm.trans ht')
    refine (State.undecided_iff s i).2 ⟨sl, hs, ?_, by rw [heq] at hawait; exact hawait⟩
    have hfixed : ¬(sl.state = .ready ∨ sl.state = .waiting) := fun hf => by
      rcases hfree hf with hn | hn <;> rw [hn] at hstate <;> cases hstate
    cases hst : sl.state with
    | ready => exact absurd (.inl hst) hfixed
    | waiting => exact absurd (.inr hst) hfixed
    | issued => rfl
    | answered =>
      rw [hkept (.inr hst), hst] at hstate
      cases hstate

theorem State.undecided_congr {i : SlotId} (h : t.slot i = s.slot i) : t.undecided i = s.undecided i := by
  unfold State.undecided
  rw [h]

theorem State.Calms.of_keeps {L : List Part} (h : s.Calms slots claim repair scrub) (hk : Keeps L s t) (hrt : Part.rt ∉ L)
    (hrepair : Part.repair ∉ L) (hscrub : Part.scrub ∉ L) : t.Calms slots claim repair scrub :=
  h.of_same (fun i hi => by rwa [State.undecided_congr (hk.slot hrt i)] at hi)
    (by rw [State.claimLoad, hk.lock hrt]; exact Nat.le_refl _) (by rw [State.repairLoad, hk.repair hrepair]; exact Nat.le_refl _)
    (by rw [State.scrubLoad, hk.scrub hscrub]; exact Nat.le_refl _)

end Transfer

theorem OpStage.recordAnswer_isOut (o : OpStage) (r : Replica) (x : OpAnswer) : (o.recordAnswer r x).isOut = o.isOut := by
  cases o <;> rfl

/-- A grant to the repair engine spends its claim for one decision; one to the walker makes none ready. -/
theorem State.Calms.grantClaim {e : Engine} {b : Nat} {s : State} (hclaim : (s.lock e).claim = some b)
    (h : s.Calms slots claim repair scrub) : (s.grantClaim e b).Calms slots claim repair scrub := by
  have hslots (i : SlotId) (hi : (s.grantClaim e b).undecided i = true) : s.undecided i = true :=
    (State.grantClaim_requestsKept e b s).undecided hi
  have hscrub : (s.grantClaim e b).scrubLoad ≤ s.scrubLoad := by
    by_cases he : e = .scrub
    · subst he
      rw [State.scrubLoad, State.grantClaim_scrub_self]
      exact Nat.zero_le _
    · rw [State.scrubLoad, State.grantClaim_scrub_of_ne he]
      split
      · exact Nat.zero_le _
      · exact Nat.le_refl _
  by_cases he : e = .repair
  · subst he
    have hspent : (s.grantClaim .repair b).claimLoad = 0 := by rw [State.claimLoad, State.grantClaim_lock_self]; rfl
    have hpending : s.claimLoad = 1 := by rw [State.claimLoad, hclaim]; rfl
    have hload : (s.grantClaim .repair b).repairLoad ≤ 1 := State.repairLoad_le_one (by rw [State.grantClaim_repair]; nofun)
    have hrepair := h.repair
    exact ⟨fun i hi => h.slots i (hslots i hi), by rw [hspent]; exact Nat.zero_le _, by omega, hscrub.trans h.scrub⟩
  · refine h.of_same hslots ?_ ?_ hscrub
    · rw [State.claimLoad, State.grantClaim_lock_other b s (fun hn => he hn.symm) (by decide)]
      exact Nat.le_refl _
    · rw [State.repairLoad, State.grantClaim_repair_of_ne he]
      exact Nat.le_refl _

theorem State.Calms.setLock {s : State} (h : s.Calms slots claim repair scrub) (e : Engine) {x : EngineLock}
    (hx : x.claim = none ∨ x.claim = (s.lock e).claim) : (s.setLock e x).Calms slots claim repair scrub := by
  refine h.of_same (fun _ => id) ?_ (Nat.le_refl _) (Nat.le_refl _)
  rw [State.claimLoad, State.lock_setLock]
  split
  · rename_i he
    subst he
    rcases hx with hx | hx
    · rw [hx]; exact Nat.zero_le _
    · rw [hx]; exact Nat.le_refl _
  · exact Nat.le_refl _

theorem calms_frees (slots : SlotId → Prop) (claim repair scrub : Nat) : FreesKeep (State.Calms slots claim repair scrub) where
  table := fun s t hk hl hr hs => hs.of_same (fun _ => hr.undecided) (by rw [State.claimLoad, State.lock_congr hl]; exact Nat.le_refl _)
    (by rw [State.repairLoad, hk.repair (by decide)]; exact Nat.le_refl _)
    (by rw [State.scrubLoad, hk.scrub (by decide)]; exact Nat.le_refl _)
  grant := fun _ _ _ hclaim _ hs => hs.grantClaim hclaim
  undrain := fun e _ _ _ _ hs => hs.setLock e (.inr rfl)

theorem State.Calms.releaseLock (e : Engine) {s : State} (h : s.Calms slots claim repair scrub) :
    (s.releaseLock e).Calms slots claim repair scrub :=
  (calms_frees _ _ _ _).releaseLock e (fun _ => h) (fun _ _ _ => h.setLock e (.inl rfl)) fun _ _ _ => h.setLock e (.inl rfl)

theorem calms_hands (slots : SlotId → Prop) (claim repair scrub : Nat) : HandsKeep (State.Calms slots claim repair scrub) where
  left := fun e block _ => (calms_frees slots claim repair scrub).goneLeft e block
  answered := fun i r x s hs => by
    refine hs.of_same (fun j hj => ?_) (Nat.le_refl _) (Nat.le_refl _) (Nat.le_refl _)
    obtain ⟨sl', hsl', hstate, hawait⟩ := (State.undecided_iff _ j).1 hj
    rw [State.slot_setSlot] at hsl'
    split at hsl'
    · rename_i hji
      obtain ⟨sl, hsl, rfl⟩ := Option.map_eq_some_iff.1 hsl'
      have hsame : (sl.recordAnswer r x).state = sl.state ∧ (sl.recordAnswer r x).awaiting = sl.awaiting := by
        unfold Slot.recordAnswer
        split <;> exact ⟨rfl, rfl⟩
      exact (State.undecided_iff s j).2 ⟨sl, hji ▸ hsl, hsame.1 ▸ hstate, hsame.2 ▸ hawait⟩
    · exact (State.undecided_iff s j).2 ⟨sl', hsl', hstate, hawait⟩
  op := fun e r x s hs => by
    cases e with
    | repair =>
      refine hs.of_same (fun _ => id) (Nat.le_refl _) (Nat.le_of_eq ?_) (Nat.le_refl _)
      change (s.repair.op.recordAnswer r x).isOut.toNat + ((s.repair.op.recordAnswer r x).isOut && _).toNat = _
      rw [OpStage.recordAnswer_isOut]
      rfl
    | copy => exact hs.of_same (fun _ => id) (Nat.le_refl _) (Nat.le_refl _) (Nat.le_refl _)
    | scrub =>
      refine hs.of_same (fun _ => id) (Nat.le_refl _) (Nat.le_refl _) (Nat.le_of_eq ?_)
      exact congrArg Bool.toNat (OpStage.recordAnswer_isOut _ r x)

theorem calms_side (slots : SlotId → Prop) (claim repair scrub : Nat) : SideKeep (State.Calms slots claim repair scrub) where
  outer := fun _ _ hk hs => hs.of_keeps hk (by decide) (by decide) (by decide)
  runCount := fun _ _ hs => hs.of_same (fun _ => id) (Nat.le_refl _) (Nat.le_refl _) (Nat.le_refl _)
  mask := fun r s hs => by
    refine hs.of_same (fun _ => id) (Nat.le_refl _) (Nat.le_of_eq ?_) (Nat.le_refl _)
    rw [Repair.retire_eq]
    rfl
  beginAbort := fun r _ hs => (calms_hands slots claim repair scrub).beginAbort
    (fun r _ hs => hs.of_keeps (State.setPort_keeps r _ _) (by decide) (by decide) (by decide))
    (fun r _ hs => hs.of_keeps (State.setPort_keeps r _ _) (by decide) (by decide) (by decide)) r hs
  copyStopped := fun o s hs => by
    have hended : State.Calms slots claim repair scrub ({ s with copy := s.copy.ended o } : State).copyForget :=
      hs.of_same (fun _ => id) (Nat.le_refl _) (Nat.le_refl _) (Nat.le_refl _)
    have hmarked : State.Calms slots claim repair scrub (({ s with copy := s.copy.ended o } : State).copyForget.marked .copy) :=
      hended.of_same (fun _ => id) (Nat.le_refl _) (Nat.le_refl _) (Nat.le_refl _)
    exact (hmarked.setLock .copy (.inl rfl)).releaseLock .copy

/-! ## Each decision lowers the load -/

/-- The load is lowered where slots, repair engine and walker have less to decide, or the same and the copy engine nothing. -/
theorem State.load_lt_of_fewer_slots {s t : State} {i : SlotId} (hi : s.undecided i = true)
    (h : t.Calms (fun j => s.undecided j = true ∧ j ≠ i) s.claimLoad (s.claimLoad + s.repairLoad) s.scrubLoad) : t.load < s.load := by
  have hsub : (Finset.univ.filter fun j => t.undecided j = true) ⊂ (Finset.univ.filter fun j => s.undecided j = true) := by
    refine Finset.ssubset_iff_subset_ne.2 ⟨fun j hj => ?_, fun heq => ?_⟩
    · simp only [Finset.mem_filter, Finset.mem_univ, true_and] at hj ⊢
      exact (h.slots j hj).1
    · have hmem : i ∈ Finset.univ.filter fun j => t.undecided j = true := by rw [heq]; simpa using hi
      exact (h.slots i (Finset.mem_filter.1 hmem).2).2 rfl
  have hcard := Finset.card_lt_card hsub
  have hcopy : t.copyLoad ≤ 1 := Bool.toNat_le _
  have hrepair := h.repair
  have hscrub := h.scrub
  unfold State.load
  omega

theorem State.Calms.card_le {s t : State} (h : t.Calms (fun j => s.undecided j = true) claim repair scrub) :
    (Finset.univ.filter fun j => t.undecided j = true).card ≤ (Finset.univ.filter fun j => s.undecided j = true).card :=
  Finset.card_le_card fun j hj => by
    simp only [Finset.mem_filter, Finset.mem_univ, true_and] at hj ⊢
    exact h.slots j hj

theorem State.load_lt_of_engine {s t : State} (h : t.Calms (fun j => s.undecided j = true) claim repair scrub)
    (hlt : repair + scrub < s.claimLoad + s.repairLoad + s.scrubLoad) : t.load < s.load := by
  have hcard := h.card_le
  have hcopy : t.copyLoad ≤ 1 := Bool.toNat_le _
  have hrepair := h.repair
  have hscrub := h.scrub
  unfold State.load
  omega

theorem State.load_lt_of_copy {s t : State}
    (h : t.Calms (fun j => s.undecided j = true) s.claimLoad (s.claimLoad + s.repairLoad) s.scrubLoad) (hs : s.copyLoad = 1)
    (ht : t.copyLoad = 0) : t.load < s.load := by
  have hcard := h.card_le
  have hrepair := h.repair
  have hscrub := h.scrub
  unfold State.load
  omega

theorem OpStage.isOut_of_complete {o : OpStage} (h : o.complete = true) : ∃ answers, o = .out answers := by
  cases o with
  | out answers => exact ⟨answers, rfl⟩
  | none => cases h
  | ready named => cases h

theorem calms_slotReports (slots : SlotId → Prop) (claim repair scrub : Nat) :
    SlotReportsKeep (State.Calms slots claim repair scrub) where
  reports := (calms_side slots claim repair scrub).reports
  remove := fun b r s hs => hs.of_keeps (State.removeRepair_keeps b r s) (by decide) (by decide) (by decide)
  failure := fun r _ => (calms_side slots claim repair scrub).targetFailure r
  free := fun b _ => (calms_frees slots claim repair scrub).freeBlock b

/-- A slot that has its answer, or waits for its fallback grant, has nothing to decide. -/
theorem State.calms_of_moved_slot {s t : State} {i : SlotId} (hk : Keeps [.rt] s t) (hl : t.rt.locks = s.rt.locks)
    (hothers : ∀ j, j ≠ i → t.slot j = s.slot j) (hself : t.undecided i = false) :
    t.Calms (fun j => s.undecided j = true ∧ j ≠ i) s.claimLoad (s.claimLoad + s.repairLoad) s.scrubLoad where
  slots := fun j hj => by
    have hji : j ≠ i := fun hn => by rw [hn, hself] at hj; cases hj
    exact ⟨State.undecided_congr (hothers j hji) ▸ hj, hji⟩
  claim := by rw [State.claimLoad, State.lock_congr hl]; exact Nat.le_refl _
  repair := by rw [State.claimLoad, State.lock_congr hl, State.repairLoad, hk.repair (by decide)]; exact Nat.le_refl _
  scrub := by rw [State.scrubLoad, hk.scrub (by decide)]; exact Nat.le_refl _

theorem State.answerSlot_slot (i j : SlotId) (x : Slot) (s : State) :
    (s.answerSlot i x).slot j = if j = i then some { x with state := .answered } else s.slot j := by
  have hslots : (s.answerSlot i x).rt.slots = (s.setSlot i (some { x with state := .answered })).rt.slots := (State.presentNext_rest _).1
  have hslot : (s.answerSlot i x).slot j = (s.setSlot i (some { x with state := .answered })).slot j := by
    simp only [State.slot, hslots]
  rw [hslot, State.slot_setSlot]

theorem State.decideSlot_load {s : State} {i : SlotId} (h : s.mayDecide (.slot i) = true) : (s.decideSlot i).load < s.load := by
  have hcomplete : ∃ sl, s.slot i = some sl ∧ sl.complete = true := by
    unfold State.mayDecide at h
    cases hsl : s.slot i with
    | none => simp [hsl] at h
    | some sl => exact ⟨sl, rfl, by simpa [hsl] using h⟩
  obtain ⟨sl, hsl, hc⟩ := hcomplete
  simp only [Slot.complete, Bool.and_eq_true, beq_iff_eq, Bool.not_eq_true'] at hc
  refine State.load_lt_of_fewer_slots ((State.undecided_iff s i).2 ⟨sl, hsl, hc.1.1, hc.1.2⟩) ?_
  refine (calms_slotReports _ _ _ _).decideSlot_of_moved (fun hn => absurd (hn.symm.trans hsl) (by simp)) (fun _ _ x => ?_)
    fun sl' first _ => ?_
  · refine State.calms_of_moved_slot (State.answerSlot_keeps i x s) (State.answerSlot_locks i x s)
      (fun j hj => by rw [State.answerSlot_slot, if_neg hj]) ?_
    rw [State.undecided, State.answerSlot_slot, if_pos rfl]
    rfl
  · refine State.calms_of_moved_slot (State.setSlot_keeps i _ s) rfl (fun j hj => by rw [State.slot_setSlot, if_neg hj]) ?_
    rw [State.undecided, State.slot_setSlot_self]
    exact Bool.and_false _

theorem State.Calms.endRepair {s : State} (h : s.Calms slots claim repair scrub) : s.endRepair.Calms slots claim claim scrub := by
  have hidle : State.Calms slots claim claim scrub { s with repair := Repair.idle } :=
    ⟨h.slots, h.claim, h.claim, h.scrub⟩
  exact hidle.releaseLock .repair

/-- The repair engine turns to another phase, with what its new op can have to decide. -/
theorem State.Calms.turnRepair {s : State} (h : s.Calms slots claim repair scrub) (x : Repair) {n : Nat}
    (hn : State.repairLoad { s with repair := x } ≤ n) : State.Calms slots claim (claim + n) scrub { s with repair := x } :=
  ⟨h.slots, h.claim, Nat.add_le_add h.claim hn, h.scrub⟩

theorem State.decideRepair_load {s : State} (h : s.mayDecide .repair = true) : s.decideRepair.load < s.load := by
  have hself := s.calms_self
  have hreports := (calms_side (fun i => s.undecided i = true) s.claimLoad (s.claimLoad + s.repairLoad) s.scrubLoad).reports
  have hfail (r : Replica) (t : State) :=
    (calms_side (fun i => s.undecided i = true) s.claimLoad (s.claimLoad + s.repairLoad) s.scrubLoad).targetFailure (s := t) r
  simp only [State.mayDecide, Bool.and_eq_true, Bool.or_eq_true, beq_iff_eq] at h
  obtain ⟨hop, hphase⟩ := h
  obtain ⟨answers, hout⟩ := OpStage.isOut_of_complete hop
  have hload : 1 ≤ s.repairLoad := by rw [State.repairLoad, hout]; exact Nat.le_add_right 1 _
  rcases hphase with (hphase | hphase) | hphase
  · rw [State.decideRepair_of_read hout hphase]
    refine State.load_lt_of_engine (claim := s.claimLoad) (repair := s.claimLoad) (scrub := s.scrubLoad) ?_ (by omega)
    exact State.decideRepairRead_keeps_of hreports (fun _ ht => ht.endRepair)
      (fun t _ ht _ => ht.turnRepair (n := 0) _ (Nat.le_refl 0)) answers hself
  · have htwo : s.repairLoad = 2 := by rw [State.repairLoad, hout, hphase]; rfl
    rw [State.decideRepair_of_write hout hphase]
    refine State.load_lt_of_engine (claim := s.claimLoad) (repair := s.claimLoad + 1) (scrub := s.scrubLoad) ?_ (by omega)
    exact State.endRepairWrite_keeps_of
      (fun t _ _ ht => ht.of_same (fun _ => id) (Nat.le_refl _) (Nat.le_refl _) (Nat.le_refl _)) hfail
      (fun t ht => ht.turnRepair _ (State.repairLoad_le_one nofun)) answers hself
  · rw [State.decideRepair_of_verify hout hphase]
    refine State.load_lt_of_engine (claim := s.claimLoad) (repair := s.claimLoad) (scrub := s.scrubLoad) ?_ (by omega)
    exact State.verifyOutcome_keeps_of hreports hfail (fun _ ht => ht.endRepair) answers hself

theorem State.Calms.endScrubRead {s : State} (h : s.Calms slots claim repair scrub) : s.endScrubRead.Calms slots claim repair 0 := by
  have hnone : State.Calms slots claim repair 0 { s with scrub := { s.scrub with op := .none } } :=
    ⟨h.slots, h.claim, h.repair, Nat.le_refl 0⟩
  have hreleased := hnone.releaseLock .scrub
  exact ⟨hreleased.slots, hreleased.claim, hreleased.repair, Nat.le_refl 0⟩

theorem State.decideScrub_load {s : State} (h : s.mayDecide .scrub = true) : s.decideScrub.load < s.load := by
  have hreports := (calms_side (fun i => s.undecided i = true) s.claimLoad (s.claimLoad + s.repairLoad) s.scrubLoad).reports
  obtain ⟨answers, hout⟩ := OpStage.isOut_of_complete (show s.scrub.op.complete = true from h)
  have hload : s.scrubLoad = 1 := by rw [State.scrubLoad, hout]; rfl
  have hreported := hreports.reportRead .scrub s.scrub.pointer 0 (voteWords (s.contributing answers) 8)
    (contributors (s.contributing answers)) ((answered answers .error).inter s.voting) s.calms_self
  have hcalm : (s.scrubReported answers).Calms (fun i => s.undecided i = true) s.claimLoad (s.claimLoad + s.repairLoad) s.scrubLoad := by
    unfold State.scrubReported
    simp only
    split
    · exact hreported
    · exact hreports.dataLoss _ hreported
  rw [State.decideScrub_of_out hout]
  exact State.load_lt_of_engine hcalm.endScrubRead (by omega)

/-- What releases its lock keeps its op. -/
theorem State.releaseLock_engineOp (e : Engine) (s : State) : (s.releaseLock e).engineOp e = s.engineOp e := by
  have hset {x : EngineLock} (hheld : x.held = none) (hclaim : x.claim = none) : s.Released e (s.setLock e x) :=
    State.setLock_released hheld hclaim
  cases hheld : (s.lock e).held with
  | none => rw [State.releaseLock_of_none hheld]
  | some b =>
    by_cases hops : s.OpsRemain e b
    · rw [State.releaseLock_of_ops hheld hops]; exact (hset rfl rfl).op
    · rw [State.releaseLock_of_no_ops hheld hops]; exact ((released_frees e s).freeBlock b (hset rfl rfl)).op

theorem State.Calms.claimCopy (b : Nat) {s : State} (h : s.Calms slots claim repair scrub) :
    (s.claim .copy b).Calms slots claim repair scrub := by
  refine (calms_frees _ _ _ _).claim .copy b (fun t ht => ht.of_same (fun _ => id) ?_ (Nat.le_refl _) (Nat.le_refl _)) h
  rw [State.claimLoad, State.lock_setLock, if_neg (by decide)]
  exact Nat.le_refl _

theorem State.claim_copy_op (b : Nat) (s : State) : (s.claim .copy b).copy.op = s.copy.op := by
  have hcopy : (s.claim .copy b).copy = (s.grantEarlier .scrub b).copy := rfl
  rw [hcopy]
  unfold State.grantEarlier
  split
  · rw [State.grantClaim_copy_of_ne (by decide)]
  · rfl

/-- The copy engine's own decisions leave it none to make. -/
theorem State.Calms.copyAdvance {s : State} (h : s.Calms slots claim repair scrub) :
    s.copyAdvance.Calms slots claim repair scrub ∧ s.copyAdvance.copyLoad = 0 := by
  have hmoved (c : Copy) : State.Calms slots claim repair scrub { s with copy := c } :=
    h.of_same (fun _ => id) (Nat.le_refl _) (Nat.le_refl _) (Nat.le_refl _)
  unfold State.copyAdvance
  simp only
  split
  · refine ⟨(calms_side _ _ _ _).copyEnd _ (hmoved _), ?_⟩
    rw [State.copyLoad, (State.copyEnd_stands _ _).copy]
    rfl
  · refine ⟨((hmoved _).releaseLock .copy).claimCopy _, ?_⟩
    have hop := State.releaseLock_engineOp .copy
      { s with copy := { s.copy with pointer := s.copy.pointer + 1, step := .claim, op := .none } }
    rw [State.copyLoad, State.claim_copy_op]
    exact congrArg (fun o => o.isOut.toNat) hop

theorem State.decideCopy_load {s : State} (h : s.mayDecide .copy = true) : s.decideCopy.load < s.load := by
  have hside := calms_side (fun i => s.undecided i = true) s.claimLoad (s.claimLoad + s.repairLoad) s.scrubLoad
  have hself := s.calms_self
  have hdone : s.decideCopy.Calms (fun i => s.undecided i = true) s.claimLoad (s.claimLoad + s.repairLoad) s.scrubLoad
      ∧ s.decideCopy.copyLoad = 0 := by
    simp only [State.mayDecide, Bool.and_eq_true] at h
    obtain ⟨hop, hphase⟩ := h
    obtain ⟨answers, hout⟩ := OpStage.isOut_of_complete hop
    split at hphase
    · rename_i hkind hstep
      rw [State.decideCopy_of_fill hout hkind hstep]
      exact State.judgeFill_keeps_of (Q := fun t => t.Calms _ _ _ _ ∧ t.copyLoad = 0) hside.reports
        (fun _ ht => ht.copyAdvance) answers hself
    · rename_i hkind hstep
      rw [State.decideCopy_of_read hout hkind hstep]
      exact State.decideCopyRead_keeps_of (Q := fun t => t.Calms _ _ _ _ ∧ t.copyLoad = 0) hside.reports
        (fun _ ht => ht.copyAdvance) (fun _ _ ht => ht.of_same (fun _ => id) (Nat.le_refl _) (Nat.le_refl _) (Nat.le_refl _))
        (fun _ _ _ ht => ⟨ht.of_same (fun _ => id) (Nat.le_refl _) (Nat.le_refl _) (Nat.le_refl _), rfl⟩) _ answers hself
    · rename_i hkind hstep
      rw [State.decideCopy_of_write hout hkind hstep]
      unfold State.endCopyWrite
      split
      · exact hself.copyAdvance
      · refine ⟨hside.copyEnd _ hself, ?_⟩
        rw [State.copyLoad, (State.copyEnd_stands _ _).copy]
        rfl
    · cases hphase
  have hout : s.copyLoad = 1 := by
    simp only [State.mayDecide, Bool.and_eq_true] at h
    obtain ⟨answers, hout⟩ := OpStage.isOut_of_complete h.1
    rw [State.copyLoad, hout]
    rfl
  exact State.load_lt_of_copy hdone.1 hout hdone.2

theorem State.decideFor_load {s : State} {d : Decider} (h : s.mayDecide d = true) : (s.decideFor d).load < s.load := by
  cases d with
  | slot i => exact State.decideSlot_load h
  | repair => exact State.decideRepair_load h
  | copy => exact State.decideCopy_load h
  | scrub => exact State.decideScrub_load h

/-! ## Settling -/

theorem State.mayDecide_of_mem_ready {s : State} {d : Decider} (h : d ∈ s.ready) : s.mayDecide d = true := (List.mem_filter.1 h).2

/-- The decision that settling takes of two or more that are ready. -/
def State.chosen (s : State) (d d' : Decider) (rest : List Decider) : Decider :=
  (d :: d' :: rest).getD (Config.freeChoice s.freeIndex % (rest.length + 2)) d

theorem State.chosen_mem (s : State) (d d' : Decider) (rest : List Decider) : s.chosen d d' rest ∈ d :: d' :: rest := by
  have hlt : Config.freeChoice s.freeIndex % (rest.length + 2) < (d :: d' :: rest).length := Nat.mod_lt _ (Nat.succ_pos _)
  rw [State.chosen, List.getD_eq_getElem _ _ hlt]
  exact List.getElem_mem _

section SettleFor

variable {s : State}

theorem State.settleFor_of_none (h : s.ready = []) (n : Nat) : State.settleFor n s = s := by
  cases n with
  | zero => rfl
  | succ n => rw [State.settleFor, h]

theorem State.settleFor_of_one {d : Decider} (h : s.ready = [d]) (n : Nat) :
    State.settleFor (n + 1) s = State.settleFor n (s.decideFor d) := by
  rw [State.settleFor, h]

theorem State.settleFor_of_more {d d' : Decider} {rest : List Decider} (h : s.ready = d :: d' :: rest) (n : Nat) :
    State.settleFor (n + 1) s =
      State.settleFor n (State.decideFor (s.chosen d d' rest) { s with freeIndex := s.freeIndex + 1 }) := by
  rw [State.settleFor, h]
  rfl

theorem State.draw_load {d : Decider} (h : d ∈ s.ready) (n : Nat) : (State.decideFor d { s with freeIndex := n }).load < s.load :=
  State.decideFor_load (s := { s with freeIndex := n }) ((State.mayDecide_with_freeIndex s n d).trans (State.mayDecide_of_mem_ready h))

end SettleFor

/-- As many rounds as the load are enough, and more change nothing. -/
theorem State.settleFor_enough {n : Nat} {s : State} (hn : s.load ≤ n) :
    (State.settleFor n s).ready = [] ∧ ∀ m, s.load ≤ m → State.settleFor m s = State.settleFor n s := by
  induction n generalizing s with
  | zero =>
    have hnone : s.ready = [] := by
      refine List.eq_nil_iff_forall_not_mem.2 fun d hd => ?_
      have := State.decideFor_load (State.mayDecide_of_mem_ready hd)
      omega
    exact ⟨hnone, fun m _ => State.settleFor_of_none hnone m⟩
  | succ n ih =>
    have hround {t : State} (hround : ∀ k, State.settleFor (k + 1) s = State.settleFor k t) (ht : t.load < s.load) :
        (State.settleFor (n + 1) s).ready = [] ∧ ∀ m, s.load ≤ m → State.settleFor m s = State.settleFor (n + 1) s := by
      obtain ⟨hready, hsame⟩ := ih (s := t) (by omega)
      refine ⟨by rw [hround]; exact hready, fun m hm => ?_⟩
      obtain ⟨k, rfl⟩ : ∃ k, m = k + 1 := ⟨m - 1, by omega⟩
      rw [hround, hround]
      exact hsame k (by omega)
    match hready : s.ready with
    | [] => exact ⟨by rw [State.settleFor_of_none hready, hready], fun m _ => by
        rw [State.settleFor_of_none hready, State.settleFor_of_none hready]⟩
    | [d] => exact hround (State.settleFor_of_one hready) (State.decideFor_load (State.mayDecide_of_mem_ready (by simp [hready])))
    | d :: d' :: rest =>
      exact hround (State.settleFor_of_more hready) (State.draw_load (by rw [hready]; exact s.chosen_mem d d' rest) _)

theorem State.settle_enough (s : State) {n : Nat} (hn : 41 ≤ n) : State.settleFor n s = s.settle :=
  (State.settleFor_enough (n := Config.decisionBound) (s.load_le.trans (by decide))).2 n (s.load_le.trans hn)

/-- Settles O5: the load of a state is below the bound of the loop, and every decision lowers it. -/
theorem decisionsFollowTheirEvent : Obligations.DecisionsFollowTheirEvent := by
  unfold Obligations.DecisionsFollowTheirEvent
  intro s
  have hfirst {t : State} (ht : State.settleFor (127 + 1) s = State.settleFor 127 t) : s.settle = t.settle :=
    ht.trans (State.settle_enough t (by decide))
  refine ⟨(State.settleFor_enough (s.load_le.trans (by decide))).1, fun h => State.settleFor_of_none h _,
    fun d h => hfirst (State.settleFor_of_one h 127), fun h => ?_⟩
  match hready : s.ready with
  | [] => simp [hready] at h
  | [d] => simp [hready] at h
  | d :: d' :: rest => exact ⟨_, s.chosen_mem d d' rest, hfirst (State.settleFor_of_more hready 127)⟩

end Sys2Proof.Machine
end

section
/-! What a soft reset lets go: the walker's pass count through the locks released under it, and the oldest request of each block that
an engine held. -/

namespace Sys2Proof.Machine

open Sys2Proof

/-! ## The walker while others let go (R41, R136) -/

/-- No engine holds or drains the block the walker claims, so nothing refuses its claim; what a refusal would change stands. -/
structure State.Walks (w : Scrub) (t : State) : Prop where
  free : ∀ b, (t.lock .scrub).claim = some b → (∀ e, e ≠ .scrub → (t.lock e).held ≠ some b) ∧ ¬t.Drains b
  passCount : t.scrub.passCount = w.passCount
  on : t.scrub.on = w.on
  interval : t.scrub.interval = w.interval

section Walks

variable {w : Scrub} {s t : State}

theorem State.Walks.of_locks (h : s.Walks w) (hlock : ∀ e, t.lock e = s.lock e) (hscrub : t.scrub = s.scrub) : t.Walks w where
  free := fun b hb => by
    simp only [State.Drains, hlock] at hb ⊢
    exact h.free b hb
  passCount := by rw [hscrub]; exact h.passCount
  on := by rw [hscrub]; exact h.on
  interval := by rw [hscrub]; exact h.interval

theorem State.Walks.of_keeps {L : List Part} (h : s.Walks w) (hk : Keeps L s t) (hrt : Part.rt ∉ L) (hscrub : Part.scrub ∉ L) :
    t.Walks w := h.of_locks (hk.lock hrt) (hk.scrub hscrub)

/-- A grant of a block that the walker does not claim, or to the walker. -/
theorem State.Walks.grant (h : s.Walks w) {e : Engine} {b : Nat} (hb : e = .scrub ∨ (s.lock .scrub).claim ≠ some b) :
    (s.grantClaim e b).Walks w := by
  by_cases he : e = .scrub
  · subst he
    have hnone : ((s.grantClaim .scrub b).lock .scrub).claim = none := by rw [State.grantClaim_lock_self]
    have hscrub := State.grantClaim_scrub_self b s
    exact ⟨fun b' hb' => (nomatch hnone.symm.trans hb'), by rw [hscrub]; exact h.passCount, by rw [hscrub]; exact h.on,
      by rw [hscrub]; exact h.interval⟩
  · have hclaim := hb.resolve_left he
    have hscrub : (s.grantClaim e b).scrub = s.scrub := by rw [State.grantClaim_scrub_of_ne he, if_neg hclaim]
    have hlock (e' : Engine) : (s.grantClaim e b).lock e' = if e' = e then { s.lock e with held := some b, claim := none } else s.lock e' := by
      rw [State.grantClaim_lock, if_neg (c := _ ∧ _) fun hn => hclaim hn.2]
    refine ⟨fun b' hb' => ?_, by rw [hscrub]; exact h.passCount, by rw [hscrub]; exact h.on, by rw [hscrub]; exact h.interval⟩
    rw [hlock, if_neg (Ne.symm he)] at hb'
    obtain ⟨hothers, hdrains⟩ := h.free b' hb'
    refine ⟨fun e' he' => ?_, fun ⟨e', hd⟩ => hdrains ⟨e', ?_⟩⟩
    · rw [hlock]
      split
      · rintro ⟨⟩; exact hclaim hb'
      · exact hothers e' he'
    · rw [hlock] at hd
      split at hd
      · rename_i heq; exact heq ▸ hd
      · exact hd

theorem State.Walks.freeBlock (h : s.Walks w) {b : Nat} (hb : (s.lock .scrub).claim ≠ some b) : (s.freeBlock b).Walks w := by
  unfold State.freeBlock
  split_ifs
  · exact h.grant (.inr hb)
  · exact h.grant (.inr hb)
  · exact h.grant (.inl rfl)
  · exact h.of_locks (State.lock_congr (State.promote_locks b s)) ((State.promote_keeps b s).scrub (by decide))

/-- A lock that lets go of what it holds or drains. -/
theorem State.Walks.setLock (h : s.Walks w) {e : Engine} {x : EngineLock} (hheld : ∀ b, x.held = some b → (s.lock e).held = some b)
    (hclaim : ∀ b, x.claim = some b → (s.lock e).claim = some b)
    (hdraining : ∀ b, x.draining = some b → (s.lock e).draining = some b ∨ (s.lock .scrub).claim ≠ some b) :
    (s.setLock e x).Walks w := by
  have hlock (e' : Engine) := State.lock_setLock e e' x s
  refine ⟨fun b hb => ?_, h.passCount, h.on, h.interval⟩
  have hbefore : (s.lock .scrub).claim = some b := by
    rw [hlock] at hb
    split at hb
    · rename_i he; exact he ▸ hclaim b hb
    · exact hb
  obtain ⟨hothers, hdrains⟩ := h.free b hbefore
  refine ⟨fun e' he' hb' => ?_, fun ⟨e', hd⟩ => hdrains ?_⟩
  · rw [hlock] at hb'
    split at hb'
    · rename_i he; exact hothers e' he' (he ▸ hheld b hb')
    · exact hothers e' he' hb'
  · rw [hlock] at hd
    split at hd
    · exact ⟨e, (hdraining b hd).resolve_right fun hn => hn hbefore⟩
    · exact ⟨e', hd⟩

theorem State.Walks.releaseLock (h : s.Walks w) {e : Engine} (hclaim : (s.lock e).claim = none) : (s.releaseLock e).Walks w := by
  cases hheld : (s.lock e).held with
  | none => rw [State.releaseLock_of_none hheld]; exact h
  | some b =>
    have hb : (s.lock .scrub).claim ≠ some b := fun hb => by
      by_cases he : e = .scrub
      · rw [← he, hclaim] at hb; cases hb
      · exact (h.free b hb).1 e he hheld
    by_cases hops : s.OpsRemain e b
    · rw [State.releaseLock_of_ops hheld hops]
      exact h.setLock nofun nofun fun b' hb' => .inr (Option.some.inj hb' ▸ hb)
    · rw [State.releaseLock_of_no_ops hheld hops]
      have hset : (s.setLock e { s.lock e with held := none, claim := none }).Walks w := h.setLock nofun nofun fun _ => .inl
      refine hset.freeBlock ?_
      rw [State.lock_setLock]
      split
      · nofun
      · exact hb

theorem State.Walks.goneLeft (h : s.Walks w) (e : Engine) (b : Nat) : (s.goneLeft e b).Walks w := by
  by_cases hlast : (s.lock e).draining = some b ∧ ¬s.OpsRemain e b
  · rw [State.goneLeft_of_last hlast.1 hlast.2]
    have hset : (s.setLock e { s.lock e with draining := none }).Walks w := h.setLock (fun _ => id) (fun _ => id) nofun
    refine hset.freeBlock fun hb => ?_
    refine (h.free b ?_).2 ⟨e, hlast.1⟩
    rw [State.lock_setLock] at hb
    split at hb
    · rename_i he; exact he ▸ hb
    · exact hb
  · rw [State.goneLeft_of_not_last (by tauto)]
    exact h

theorem State.Walks.abandon (h : s.Walks w) (e : Engine) : (s.abandon e).Walks w := by
  have hmarked : (s.marked e).Walks w := h.of_locks (fun _ => rfl) rfl
  have hwithdrawn : (s.withdrawn e).Walks w := hmarked.setLock (fun _ => id) nofun fun _ => .inl
  rw [State.abandon_eq_releaseLock]
  exact hwithdrawn.releaseLock (by rw [State.withdrawn_lock, if_pos rfl])

theorem walks_hands (w : Scrub) : HandsKeep (State.Walks w) where
  left := fun e b _ hs => hs.goneLeft e b
  answered := fun _ _ _ _ hs => hs.of_locks (fun _ => rfl) rfl
  op := fun e r x s hs => by
    have hlock := (State.setEngineOp_keeps e ((s.engineOp e).recordAnswer r x) s).lock (by decide)
    cases e with
    | repair => exact hs.of_locks hlock rfl
    | copy => exact hs.of_locks hlock rfl
    | scrub => exact ⟨hs.free, hs.passCount, hs.on, hs.interval⟩

theorem walks_retire (w : Scrub) : RetireKeep (State.Walks w) where
  outer := fun _ _ hk hs => hs.of_keeps hk (by decide) (by decide)
  runCount := fun _ _ hs => hs.of_locks (fun _ => rfl) rfl
  mask := fun _ _ hs => hs.of_locks (fun _ => rfl) rfl
  beginAbort := fun r _ hs => (walks_hands w).beginAbort (fun _ _ hs => hs.of_locks (fun _ => rfl) rfl)
    (fun _ _ hs => hs.of_locks (fun _ => rfl) rfl) r hs

end Walks

end Sys2Proof.Machine
end

section
/-! The oldest request of each block that an engine lets go: it waits only while the block is held or drains (R35, R42, R48). -/

namespace Sys2Proof.Machine

open Sys2Proof

/-! ## The oldest request of a block -/

/-- The oldest request of a block is the first in acceptance order whose slot is for it. -/
theorem State.oldestFor_eq (s : State) (b : Nat) :
    s.oldestFor b = s.rt.acceptOrder.find? fun i => (s.slot i).map Slot.block == some b := by
  unfold State.oldestFor
  congr 1
  funext i
  cases s.slot i <;> rfl

theorem State.oldestFor_congr {s t : State} (horder : t.rt.acceptOrder = s.rt.acceptOrder)
    (hblock : ∀ i, (t.slot i).map Slot.block = (s.slot i).map Slot.block) (b : Nat) : t.oldestFor b = s.oldestFor b := by
  simp only [State.oldestFor_eq, horder, hblock]

theorem State.block_of_oldestFor {s : State} {b : Nat} {i : SlotId} {sl : Slot} (h : s.oldestFor b = some i) (hsl : s.slot i = some sl) :
    sl.block = b := by
  rw [State.oldestFor_eq] at h
  simpa [hsl] using List.find?_some h

theorem RequestsKept.slot_block {lost : SlotId → Replica → Prop} {s t : State} (h : RequestsKept lost s t) (i : SlotId) :
    (t.slot i).map Slot.block = (s.slot i).map Slot.block := by
  cases hsl : s.slot i with
  | none => rw [(h i).1 hsl]
  | some sl =>
    obtain ⟨sl', ht, heq, -⟩ := (h i).2 sl hsl
    rw [ht, heq]
    rfl

theorem RequestsKept.oldestFor {lost : SlotId → Replica → Prop} {s t : State} (h : RequestsKept lost s t) (ht : TableKept s t) (b : Nat) :
    t.oldestFor b = s.oldestFor b := State.oldestFor_congr ht.acceptOrder h.slot_block b

/-! ## Blocks whose oldest request is awake -/

/-- Of each block of a set, the oldest request waits only while the block is held or drains. -/
structure State.Wakes (asked : Nat → Prop) (first : Nat → Option SlotId) (t : State) : Prop where
  one : ∀ e, (t.lock e).held.isSome = true → (t.lock e).claim = none
  oldest : ∀ b, t.oldestFor b = first b
  woken : ∀ b, asked b → ∀ i sl, first b = some i → t.slot i = some sl → sl.state = .waiting →
    (∃ e, (t.lock e).held = some b) ∨ t.Drains b

section Wakes

variable {asked : Nat → Prop} {first : Nat → Option SlotId} {s t : State}

theorem State.Wakes.of_slots (h : s.Wakes asked first) (hlock : ∀ e, t.lock e = s.lock e)
    (horder : t.rt.acceptOrder = s.rt.acceptOrder) (hblock : ∀ i, (t.slot i).map Slot.block = (s.slot i).map Slot.block)
    (hstate : ∀ i, (t.slot i).map Slot.state = (s.slot i).map Slot.state) : t.Wakes asked first where
  one := fun e => by rw [hlock]; exact h.one e
  oldest := fun b => (State.oldestFor_congr horder hblock b).trans (h.oldest b)
  woken := fun b hb i sl hi hsl hw => by
    simp only [State.Drains, hlock]
    have hbefore := hstate i
    rw [hsl] at hbefore
    obtain ⟨sl', hsl', heq⟩ := Option.map_eq_some_iff.1 hbefore.symm
    exact h.woken b hb i sl' hi hsl' (heq.trans hw)

theorem State.Wakes.of_keeps {L : List Part} (h : s.Wakes asked first) (hk : Keeps L s t) (hL : Part.rt ∉ L) : t.Wakes asked first :=
  h.of_slots (hk.lock hL) (by rw [hk.rt hL]) (fun i => by rw [hk.slot hL]) fun i => by rw [hk.slot hL]

/-- A lock that lets go of what it holds or drains, where what it lets go is not asked for. -/
theorem State.Wakes.setLock {asked' : Nat → Prop} (h : s.Wakes asked first) {e : Engine} {x : EngineLock}
    (hone : x.held.isSome = true → x.claim = none) (hasked : ∀ b, asked' b → asked b)
    (hlets : ∀ b, asked' b → (s.lock e).held = some b ∨ (s.lock e).draining = some b → x.held = some b ∨ x.draining = some b) :
    (s.setLock e x).Wakes asked' first := by
  have hlock (e' : Engine) := State.lock_setLock e e' x s
  refine ⟨fun e' hn => ?_, h.oldest, fun b hb i sl hi hsl hw => ?_⟩
  · rw [hlock] at hn ⊢
    split
    · rename_i he; rw [if_pos he] at hn; exact hone hn
    · rename_i he; rw [if_neg he] at hn; exact h.one e' hn
  · have hself : x.held = some b ∨ x.draining = some b →
        (∃ e', ((s.setLock e x).lock e').held = some b) ∨ (s.setLock e x).Drains b :=
      Or.imp (fun hx => ⟨e, by rw [State.lock_setLock_self]; exact hx⟩) fun hx => ⟨e, by rw [State.lock_setLock_self]; exact hx⟩
    rcases h.woken b (hasked b hb) i sl hi hsl hw with ⟨e', he'⟩ | ⟨e', he'⟩ <;> by_cases he : e' = e
    · exact hself (hlets b hb (.inl (he ▸ he')))
    · exact .inl ⟨e', by rw [hlock, if_neg he]; exact he'⟩
    · exact hself (hlets b hb (.inr (he ▸ he')))
    · exact .inr ⟨e', by rw [hlock, if_neg he]; exact he'⟩

theorem State.grantClaim_held (e e' : Engine) (b : Nat) (s : State) :
    ((s.grantClaim e b).lock e').held = if e' = e then some b else (s.lock e').held := by
  rw [State.grantClaim_lock]
  split_ifs with he hs
  · rfl
  · rw [hs.1]
  · rfl

theorem State.grantClaim_draining (e e' : Engine) (b : Nat) (s : State) :
    ((s.grantClaim e b).lock e').draining = (s.lock e').draining := by
  rw [State.grantClaim_lock]
  split_ifs with he hs
  · rw [he]
  · rw [hs.1]
  · rfl

/-- A granted block is held. -/
theorem State.Wakes.grant {e : Engine} {b : Nat} (h : s.Wakes (fun b' => asked b' ∧ b' ≠ b) first) (hclaim : (s.lock e).claim = some b) :
    (s.grantClaim e b).Wakes asked first where
  one := fun e' hn => by
    rw [State.grantClaim_held] at hn
    rw [State.grantClaim_lock]
    split_ifs with he hs
    · rfl
    · rfl
    · rw [if_neg he] at hn; exact h.one e' hn
  oldest := fun b' => ((State.grantClaim_requestsKept e b s).oldestFor (State.grantClaim_table e b s) b').trans (h.oldest b')
  woken := fun b' hb' i sl hi hsl hw => by
    by_cases hb : b' = b
    · exact .inl ⟨e, by rw [State.grantClaim_held, if_pos rfl, hb]⟩
    · have hblock : sl.block = b' := State.block_of_oldestFor
        (((State.grantClaim_requestsKept e b s).oldestFor (State.grantClaim_table e b s) b').trans ((h.oldest b').trans hi)) hsl
      have hbefore : s.slot i = some sl := by
        rw [State.grantClaim_slot, holdBack_eq] at hsl
        obtain ⟨sl', hsl', heq⟩ := Option.map_eq_some_iff.1 hsl
        split at heq
        · rename_i hcond
          rw [← heq] at hblock
          exact absurd (hblock.symm.trans hcond.2.1) hb
        · exact heq ▸ hsl'
      rcases h.woken b' ⟨hb', hb⟩ i sl hi hbefore hw with ⟨e', he'⟩ | ⟨e', he'⟩
      · have he : e' ≠ e := fun he => by
          have := h.one e (by rw [← he, he']; rfl)
          rw [hclaim] at this
          cases this
        exact .inl ⟨e', by rw [State.grantClaim_held, if_neg he]; exact he'⟩
      · exact .inr ⟨e', by rw [State.grantClaim_draining]; exact he'⟩

/-- A block that nobody is granted wakes its oldest request unless it is held or drains. -/
theorem State.Wakes.promote {b : Nat} (h : s.Wakes (fun b' => asked b' ∧ b' ≠ b) first) : (s.promote b).Wakes asked first := by
  have hlock (e : Engine) : (s.promote b).lock e = s.lock e := State.lock_congr (State.promote_locks b s) e
  have hother (i : SlotId) (hi : s.oldestFor b ≠ some i) : (s.promote b).slot i = s.slot i := by
    unfold State.promote
    split
    · rfl
    · rename_i j hj
      split
      · rfl
      · split
        · refine (State.slot_setSlot _ _ _ _).trans (if_neg fun hn => hi ?_)
          rw [hn, hj]
        · rfl
  refine ⟨fun e => by rw [hlock]; exact h.one e,
    fun b' => ((State.promote_requestsKept b s).oldestFor (State.promote_table b s) b').trans (h.oldest b'),
    fun b' hb' i sl hi hsl hw => ?_⟩
  simp only [State.Drains, hlock]
  have hold : s.oldestFor b' = some i := (h.oldest b').trans hi
  by_cases hb : b' = b
  · subst hb
    obtain ⟨sl', hsl'⟩ : ∃ sl', s.slot i = some sl' := by
      rw [← Option.isSome_iff_exists, ← (State.promote_table b' s).occupied, hsl]
      rfl
    obtain ⟨hready, hstays⟩ := State.promote_of_oldest hold hsl'
    by_contra hn
    rw [not_or] at hn
    by_cases hwaiting : sl'.state = .waiting
    · rw [hready hwaiting (fun e he => hn.1 ⟨e, he⟩) hn.2, State.slot_setSlot, if_pos rfl] at hsl
      obtain rfl := Option.some.inj hsl
      cases hw
    · rw [hstays (.inl hwaiting), hsl'] at hsl
      exact hwaiting (Option.some.inj hsl ▸ hw)
  · refine h.woken b' ⟨hb', hb⟩ i sl hi ?_ hw
    by_cases hi' : s.oldestFor b = some i
    · have hocc := State.block_of_oldestFor (((State.promote_requestsKept b s).oldestFor (State.promote_table b s) b).trans hi') hsl
      have hocc' := State.block_of_oldestFor (((State.promote_requestsKept b s).oldestFor (State.promote_table b s) b').trans hold) hsl
      exact absurd (hocc'.symm.trans hocc) hb
    · rw [← hother i hi']; exact hsl

theorem State.Wakes.freeBlock {b : Nat} (h : s.Wakes (fun b' => asked b' ∧ b' ≠ b) first) : (s.freeBlock b).Wakes asked first := by
  have hgrant (e : Engine) (hc : (s.claims e b && s.canGrant e b) = true) : (s.grantClaim e b).Wakes asked first :=
    h.grant ((State.claims_iff s e b).1 (Bool.and_eq_true_iff.1 hc).1)
  unfold State.freeBlock
  split_ifs with hr hc hw
  · exact hgrant _ hr
  · exact hgrant _ hc
  · exact hgrant _ hw
  · exact h.promote

theorem State.Wakes.goneLeft (h : s.Wakes asked first) (e : Engine) (b : Nat) : (s.goneLeft e b).Wakes asked first := by
  by_cases hlast : (s.lock e).draining = some b ∧ ¬s.OpsRemain e b
  · rw [State.goneLeft_of_last hlast.1 hlast.2]
    have hset : (s.setLock e { s.lock e with draining := none }).Wakes (fun b' => asked b' ∧ b' ≠ b) first :=
      h.setLock (h.one e) (fun _ hb => hb.1) fun b' hb => by
        rintro (hheld | hdraining)
        · exact .inl hheld
        · exact absurd (Option.some.inj (hdraining.symm.trans hlast.1)) hb.2
    exact hset.freeBlock
  · rw [State.goneLeft_of_not_last (by tauto)]
    exact h

/-- A lock is released: a draining hold it then has is the one it had, or its first. -/
theorem State.Wakes.releaseLock (h : s.Wakes asked first) {e : Engine}
    (hover : ∀ b b', (s.lock e).held = some b → (s.lock e).draining = some b' → s.OpsRemain e b → b' = b) :
    (s.releaseLock e).Wakes asked first := by
  cases hheld : (s.lock e).held with
  | none => rw [State.releaseLock_of_none hheld]; exact h
  | some b =>
    by_cases hops : s.OpsRemain e b
    · rw [State.releaseLock_of_ops hheld hops]
      refine h.setLock nofun (fun _ => id) fun b' _ hb' => .inr ?_
      rcases hb' with hb' | hb'
      · exact hheld.symm.trans hb'
      · rw [hover b b' hheld hb' hops]
    · rw [State.releaseLock_of_no_ops hheld hops]
      have hset : (s.setLock e { s.lock e with held := none, claim := none }).Wakes (fun b' => asked b' ∧ b' ≠ b) first :=
        h.setLock nofun (fun _ hb => hb.1) fun b' hb => by
          rintro (hb' | hb')
          · exact absurd (Option.some.inj (hb'.symm.trans hheld)) hb.2
          · exact .inr hb'
      exact hset.freeBlock

/-- An engine abandons its work. -/
theorem State.Wakes.abandon {e : Engine} {full : Scope} (h : s.Wakes asked first)
    (hsound : (s.withdrawn e).Sound (some e) nothingOwed full) (hf : full.entries) : (s.abandon e).Wakes asked first := by
  have hmarked : (s.marked e).Wakes asked first := h.of_slots (fun _ => rfl) rfl (fun _ => rfl) fun _ => rfl
  have hwithdrawn : (s.withdrawn e).Wakes asked first := hmarked.setLock (fun _ => rfl) (fun _ => id) fun _ _ => id
  refine hwithdrawn.releaseLock fun b b' _ hdraining hops => ?_
  have hs := hsound.leaves hf e rfl
  obtain ⟨r, g, hg⟩ := (State.opsRemain_iff _ e b).1 hops
  obtain ⟨r', g', hg'⟩ := (hs.drains b' hdraining).resolve_right id
  exact hs.alike r' r _ _ hg' hg

theorem Slot.recordAnswer_fields (sl : Slot) (r : Replica) (x : OpAnswer) :
    (sl.recordAnswer r x).block = sl.block ∧ (sl.recordAnswer r x).state = sl.state := by
  unfold Slot.recordAnswer
  split <;> exact ⟨rfl, rfl⟩

theorem wakes_hands (asked : Nat → Prop) (first : Nat → Option SlotId) : HandsKeep (State.Wakes asked first) where
  left := fun e b _ hs => hs.goneLeft e b
  answered := fun i r x s hs => by
    have hfield {α : Type} (f : Slot → α) (hf : ∀ sl, f (sl.recordAnswer r x) = f sl) (j : SlotId) :
        ((s.setSlot i ((s.slot i).map fun sl => sl.recordAnswer r x)).slot j).map f = (s.slot j).map f := by
      rw [State.slot_setSlot]
      split
      · rename_i hj; rw [hj, Option.map_map, show f ∘ _ = f from funext hf]
      · rfl
    exact hs.of_slots (fun _ => rfl) rfl (hfield Slot.block fun sl => (sl.recordAnswer_fields r x).1)
      (hfield Slot.state fun sl => (sl.recordAnswer_fields r x).2)
  op := fun e r x s hs => hs.of_keeps (State.setEngineOp_keeps e ((s.engineOp e).recordAnswer r x) s) (by decide)

theorem wakes_retire (asked : Nat → Prop) (first : Nat → Option SlotId) : RetireKeep (State.Wakes asked first) where
  outer := fun _ _ hk hs => hs.of_keeps hk (by decide)
  runCount := fun _ _ hs => hs.of_slots (fun _ => rfl) rfl (fun _ => rfl) fun _ => rfl
  mask := fun _ _ hs => hs.of_slots (fun _ => rfl) rfl (fun _ => rfl) fun _ => rfl
  beginAbort := fun r _ hs => (wakes_hands asked first).beginAbort
    (fun _ _ hs => hs.of_slots (fun _ => rfl) rfl (fun _ => rfl) fun _ => rfl)
    (fun _ _ hs => hs.of_slots (fun _ => rfl) rfl (fun _ => rfl) fun _ => rfl) r hs

end Wakes

end Sys2Proof.Machine
end

section
/-! The engines, their locks and their entries at a soft reset (R91, R106, R128, R139, R161). -/

namespace Sys2Proof.Machine

open Sys2Proof

/-- What the invariants of a soft reset's state say of the engines: all that HoldsWf says, and nothing of the ports. -/
abbrev Scope.entriesOnly : Scope := ⟨True, False⟩

theorem State.EnginesWf.steady_entries {s : State} (h : s.EnginesWf) (hh : s.HoldsWf) : s.Steady Scope.entriesOnly :=
  ⟨h.apart, fun _ => h.scrubBlock', fun e _ => h.seat e, nofun, fun _ => hh.undrained, fun _ e _ => hh.seat e, nofun, nofun⟩

theorem State.softResetCopy_of_idle {s : State} (h : s.copy.state = .idle) : s.softResetCopy = s := if_pos h

theorem State.softResetCopy_of_copying {s : State} (h : s.copy.state ≠ .idle) : s.softResetCopy = s.copyEnd .abortedReset := if_neg h

theorem State.resetHealth_copy (s : State) : s.resetHealth.copy = s.copy := s.resetHealth_keeps.copy (by decide)

theorem State.resetCopy_of_idle {s : State} (h : s.copy.state = .idle) : s.resetCopy = s.resetHealth :=
  State.softResetCopy_of_idle (by rw [State.resetHealth_copy, h])

theorem State.resetCopy_of_copying {s : State} (h : s.copy.state ≠ .idle) : s.resetCopy = s.resetHealth.copyEnd .abortedReset :=
  State.softResetCopy_of_copying (by rwa [State.resetHealth_copy])

theorem State.resetRepair_keeps (s : State) : Keeps (.queue :: .alerts :: .ports :: grantParts) s.resetCopy s.resetRepair :=
  State.softResetRepair_keeps _

theorem State.resetScrub_keeps (s : State) : Keeps (.ports :: grantParts) s.resetRepair s.resetScrub := State.softResetScrub_keeps _

/-- What the soft reset of the repair engine and of the walker leave alone. -/
theorem State.resetScrub_of_resetCopy (s : State) : Keeps (.queue :: .alerts :: .ports :: grantParts) s.resetCopy s.resetScrub :=
  s.resetScrub_keeps.after (by decide) s.resetRepair_keeps

/-! ## The copy engine and the repair engine -/

theorem State.CopyStands.abandon {c : Copy} {s : State} (h : s.CopyStands c) {e : Engine} (he : e ≠ .copy) : (s.abandon e).CopyStands c := by
  have hset (t : State) (x : EngineLock) (ht : t.CopyStands c) : (t.setLock e x).CopyStands c := by
    have hlock : (t.setLock e x).lock .copy = t.lock .copy := by rw [State.lock_setLock, if_neg he.symm]
    exact ht.of_lock rfl (by rw [hlock]) (by rw [hlock])
  have hwithdrawn : (s.withdrawn e).CopyStands c := hset (s.marked e) _ (h.of_lock rfl rfl rfl)
  exact (copyStands_frees c).releaseLock e (fun _ => hwithdrawn) (fun _ _ _ => hset _ _ hwithdrawn) fun _ _ _ => hset _ _ hwithdrawn

/-- The copy engine holds a context that is IDLE, after the soft reset's copy part as to its end. -/
theorem State.Sound.resetCopy_stands {full : Scope} {s : State} (h : s.Steady full) : ∃ c : Copy, s.resetCopy.CopyStands c ∧ c.state = .idle
    ∧ (s.copy.state = .idle → c = s.copy)
    ∧ (s.copy.state ≠ .idle → c = { s.copy with state := .idle, step := .none, outcome := .abortedReset, op := .none }) := by
  by_cases hidle : s.copy.state = .idle
  · have hphases : s.resetHealth.claimingPhase .copy = false ∧ s.resetHealth.workingPhase .copy = false := by
      simp [State.claimingPhase, State.workingPhase, State.resetHealth_copy, hidle]
    obtain ⟨hheld, hclaim⟩ := h.resetHealth.lock_none_of_phase hphases.1 hphases.2
    refine ⟨s.copy, ?_, hidle, fun _ => rfl, fun hn => absurd hidle hn⟩
    rw [State.resetCopy_of_idle hidle]
    exact ⟨s.resetHealth_copy, hclaim, hheld⟩
  · refine ⟨s.copy.ended .abortedReset, ?_, rfl, fun hn => absurd hn hidle, fun _ => rfl⟩
    rw [State.resetCopy_of_copying hidle, ← s.resetHealth_copy]
    exact State.copyEnd_stands _ _

theorem State.CopyStands.resetScrub {c : Copy} {s : State} (h : s.resetCopy.CopyStands c) : s.resetScrub.CopyStands c := by
  have hqueue := State.setQueue_keeps [] s.resetCopy
  have hrepair : s.resetRepair.CopyStands c := by
    have habandoned := (h.of_lock (hqueue.copy (by decide)) (by rw [hqueue.lock (by decide)])
      (by rw [hqueue.lock (by decide)])).abandon (e := .repair) (by decide)
    exact habandoned.of_lock rfl rfl rfl
  exact (hrepair.abandon (e := .scrub) (by decide)).of_lock rfl rfl rfl

/-- The repair engine holds this repair, without a claim. -/
def State.RepairRests (a : Repair) (t : State) : Prop := (t.lock .repair).claim = none ∧ t.repair = a

theorem repairRests_frees (a : Repair) : FreesKeep (State.RepairRests a) where
  table := fun _ _ hk hl _ hs => ⟨by rw [State.lock_congr hl]; exact hs.1, (hk.repair (by decide)).trans hs.2⟩
  grant := fun e b s hclaim _ hs => by
    have he : e ≠ .repair := fun he => by rw [he, hs.1] at hclaim; cases hclaim
    exact ⟨State.grantClaim_claim hs.1, (State.grantClaim_repair_of_ne he b s).trans hs.2⟩
  undrain := fun e b s _ _ hs => by
    refine ⟨?_, hs.2⟩
    rw [State.lock_setLock]
    split
    · rename_i he; exact he ▸ hs.1
    · exact hs.1

theorem State.RepairRests.abandon {a : Repair} {s : State} (h : s.RepairRests a) {e : Engine} (he : e ≠ .repair) :
    (s.abandon e).RepairRests a := by
  have hset (t : State) (x : EngineLock) (ht : t.RepairRests a) : (t.setLock e x).RepairRests a :=
    ⟨by rw [State.lock_setLock, if_neg he.symm]; exact ht.1, ht.2⟩
  have hwithdrawn : (s.withdrawn e).RepairRests a := hset (s.marked e) _ h
  exact (repairRests_frees a).releaseLock e (fun _ => hwithdrawn) (fun _ _ _ => hset _ _ hwithdrawn) fun _ _ _ => hset _ _ hwithdrawn

theorem State.Sound.resetScrub_repair {full : Scope} {s : State} (h : s.Steady full) : s.resetScrub.repair = Repair.idle := by
  have hclaim : (s.resetRepair.lock .repair).claim = none := (h.resetRepair.lock_none_of_phase rfl rfl).2
  have hrests : s.resetRepair.RepairRests Repair.idle := ⟨hclaim, rfl⟩
  exact (hrests.abandon (e := .scrub) (by decide)).2

/-! ## The walker -/

/-- A predicate that the abandoned work and the retired rebuild target of a soft reset keep. -/
structure ResetKeep (full : Scope) (P : State → Prop) : Prop extends RetireKeep P where
  abandon : ∀ e s, (s.withdrawn e).Sound (some e) nothingOwed full → P s → P (s.abandon e)
  copy : ∀ c s, P s → P { s with copy := c }
  repair : ∀ a s, P s → P { s with repair := a }

/-- Such a predicate holds once the walker has abandoned its work. -/
theorem ResetKeep.resetRepair_abandon {full : Scope} {P : State → Prop} (hP : ResetKeep full P) {s : State} (h : s.Steady full) (hs : P s) :
    P (s.resetRepair.abandon .scrub) := by
  have hhealth : P s.resetHealth := hP.toRetireKeep.frame s.resetHealth_keeps (by decide) hs
  have hcopy : P s.resetCopy := by
    by_cases hidle : s.copy.state = .idle
    · rw [State.resetCopy_of_idle hidle]; exact hhealth
    · have hmoved : s.resetHealth.SeatMoved .copy
          ({ s.resetHealth with copy := s.resetHealth.copy.ended .abortedReset } : State).copyForget :=
        (State.SeatMoved.copy _ _).of_seats (State.copyForget_seat _) fun _ => rfl
      rw [State.resetCopy_of_copying hidle]
      exact hP.toRetireKeep.copyEnd_of_stopped _ (hP.abandon .copy _ (h.resetHealth.withdraw hmoved)
        (hP.repair _ _ (hP.copy _ _ hhealth)))
  have hqueue : P (s.resetCopy.setQueue []) := hP.toRetireKeep.frame (State.setQueue_keeps [] _) (by decide) hcopy
  have hrepair : P s.resetRepair := hP.repair _ _ (hP.abandon .repair _ (h.resetQueue.withdraw (State.SeatMoved.refl _ _)) hqueue)
  exact hP.abandon .scrub _ (h.resetRepair.withdraw (State.SeatMoved.refl _ _)) hrepair

theorem walks_reset (full : Scope) (w : Scrub) : ResetKeep full (State.Walks w) where
  toRetireKeep := walks_retire w
  abandon := fun e _ _ hs => hs.abandon e
  copy := fun _ _ hs => hs.of_locks (fun _ => rfl) rfl
  repair := fun _ _ hs => hs.of_locks (fun _ => rfl) rfl

theorem State.resetScrub_scrub (s : State) : s.resetScrub.scrub = (s.resetRepair.abandon .scrub).scrub.softReset := rfl

theorem State.Sound.resetScrub_walks {full : Scope} {s : State} (h : s.Steady full) : (s.resetRepair.abandon .scrub).Walks s.scrub :=
  (walks_reset full s.scrub).resetRepair_abandon h ⟨h.scrubBlock, rfl, rfl, rfl⟩

/-! ## Locks -/

theorem Scrub.softReset_phase (w : Scrub) : (w.softReset.state == .claiming) = false ∧ (w.softReset.state == .reading) = false := by
  simp only [Scrub.softReset]
  constructor <;> split <;> rfl

/-- No engine works at anything after a soft reset (R128, R139, R161). -/
theorem State.Sound.resetScrub_lock {full : Scope} {s : State} (h : s.Steady full) (e : Engine) :
    (s.resetScrub.lock e).held = none ∧ (s.resetScrub.lock e).claim = none := by
  cases e with
  | repair =>
    have hrepair := h.resetScrub_repair
    exact h.resetScrub.lock_none_of_phase (by simp [State.claimingPhase, hrepair, Repair.idle])
      (by simp [State.workingPhase, hrepair, Repair.idle])
  | copy =>
    obtain ⟨c, hstands, -⟩ := h.resetCopy_stands
    exact ⟨hstands.resetScrub.held, hstands.resetScrub.claim⟩
  | scrub =>
    have hphase := Scrub.softReset_phase (s.resetRepair.abandon .scrub).scrub
    exact h.resetScrub.lock_none_of_phase hphase.1 hphase.2

/-! ## Ports (R91, R97, R106) -/

theorem State.rebuildTarget_eq_some_iff (s : State) (r : Replica) :
    s.rebuildTarget = some r ↔ s.copy.state ≠ .idle ∧ s.copy.kind = .rebuild r := by
  constructor
  · intro h
    exact ⟨fun hidle => (nomatch (State.rebuildTarget_of_idle hidle).symm.trans h), State.kind_of_rebuildTarget h⟩
  · rintro ⟨hcopying, hkind⟩
    unfold State.rebuildTarget
    rw [hkind]
    cases hstate : s.copy.state <;> first | rfl | exact absurd hstate hcopying

theorem State.resetHealth_port (s : State) (r : Replica) : s.resetHealth.port r = s.port r := s.resetHealth_keeps.port (by decide) r

theorem State.resetCopy_port (s : State) (r : Replica) :
    s.resetCopy.port r =
      if s.rebuildTarget = some r ∧ (s.port r).state = .ready then (s.port r).begun
      else if s.copy.state = .idle then s.port r
      else (s.port r).markGone .copy := by
  by_cases hidle : s.copy.state = .idle
  · rw [State.resetCopy_of_idle hidle, State.resetHealth_port, if_neg (by simp [State.rebuildTarget_of_idle hidle]), if_pos hidle]
  · rw [State.resetCopy_of_copying hidle, State.copyEnd_port, State.resetHealth_port, State.resetHealth_copy, if_neg hidle]
    have htarget := s.rebuildTarget_eq_some_iff r
    by_cases hbegun : s.copy.kind = .rebuild r ∧ (s.port r).state = .ready
    · rw [if_pos ⟨hbegun.1, by decide, hbegun.2⟩, if_pos ⟨htarget.2 ⟨hidle, hbegun.1⟩, hbegun.2⟩]
      rfl
    · rw [if_neg fun hn => hbegun ⟨hn.1, hn.2.2⟩, if_neg fun hn => hbegun ⟨(htarget.1 hn.1).2, hn.2⟩]

theorem State.abandon_port (e : Engine) (s : State) (r : Replica) : (s.abandon e).port r = (s.port r).markGone e := by
  rw [State.abandon_eq_releaseLock, (State.releaseLock_keeps _ _).port (by decide), State.withdrawn_port]

theorem State.resetScrub_port (s : State) (r : Replica) :
    s.resetScrub.port r = ((s.resetCopy.port r).markGone .repair).markGone .scrub := by
  have hrepair : s.resetRepair.port r = (s.resetCopy.port r).markGone .repair :=
    (State.abandon_port .repair _ r).trans (congrArg (Port.markGone .repair) ((State.setQueue_keeps [] _).port (by decide) r))
  exact (State.abandon_port .scrub _ r).trans (congrArg (Port.markGone .scrub) hrepair)

/-- An entry belongs to work that a soft reset abandons. -/
def State.resetGone (s : State) (x : IssueEntry) : Bool :=
  x.op.owner == .engine .repair || x.op.owner == .engine .scrub || (x.op.owner == .engine .copy && s.copy.state != .idle)

theorem State.resetScrub_port_of_target {s : State} {r : Replica} (ht : s.rebuildTarget = some r) (hready : (s.port r).state = .ready) :
    s.resetScrub.port r = (s.port r).begun := by
  rw [State.resetScrub_port, State.resetCopy_port, if_pos ⟨ht, hready⟩]
  rfl

theorem State.resetScrub_port_of_other {s : State} {r : Replica} (h : s.rebuildTarget ≠ some r ∨ (s.port r).state ≠ .ready) :
    s.resetScrub.port r =
      { s.port r with list := (s.port r).list.map fun x => { x with ownerGone := x.ownerGone || s.resetGone x } } := by
  rw [State.resetScrub_port, State.resetCopy_port, if_neg (not_and_or.2 h)]
  split
  · rename_i hidle
    simp only [Port.markGone_eq, List.map_map, Function.comp_def, State.resetGone, hidle, bne_self_eq_false, Bool.and_false, Bool.or_false,
      Bool.or_assoc]
  · rename_i hcopying
    have hbusy : (s.copy.state != .idle) = true := by simpa using hcopying
    simp only [Port.markGone_eq, List.map_map, Function.comp_def, State.resetGone, hbusy, Bool.and_true]
    congr 2
    funext x
    congr 1
    ac_rfl

/-- Every entry after a soft reset was there before, for the same op. -/
theorem State.resetScrub_entry {s : State} {r : Replica} {x : IssueEntry} (hx : x ∈ (s.resetScrub.port r).list) :
    ∃ y ∈ (s.port r).list, y.op = x.op := by
  by_cases h : s.rebuildTarget = some r ∧ (s.port r).state = .ready
  · rw [State.resetScrub_port_of_target h.1 h.2] at hx
    cases hx
  · rw [State.resetScrub_port_of_other (not_and_or.1 h)] at hx
    obtain ⟨y, hy, rfl⟩ := List.mem_map.1 hx
    exact ⟨y, hy, rfl⟩

/-! ## Draining holds (R42) -/

/-- A block that an engine held or drained drains exactly while ops of that engine for it remain. -/
theorem State.HoldsWf.resetScrub_draining {s : State} (h : s.HoldsWf) (hs : s.Steady Scope.entriesOnly) (e : Engine) (b : Nat) :
    (s.resetScrub.lock e).draining = some b ↔
      ((s.lock e).held = some b ∨ (s.lock e).draining = some b) ∧ s.resetScrub.OpsRemain e b := by
  have hafter := hs.resetScrub.holds trivial e nofun
  constructor
  · intro hd
    have hops : s.resetScrub.OpsRemain e b := (State.opsRemain_iff _ e b).2 ((hafter.drains b hd).resolve_right id)
    obtain ⟨r, x, hx, howner, rfl⟩ := hops
    obtain ⟨y, hy, hop⟩ := State.resetScrub_entry hx
    refine ⟨?_, r, x, hx, howner, rfl⟩
    rw [← hop] at howner ⊢
    cases hgone : y.ownerGone with
    | false => exact .inl (h.live e r y hy howner hgone).1
    | true => exact .inr (h.gone e r y hy howner hgone)
  · rintro ⟨-, hops⟩
    obtain ⟨r, g, hg⟩ := (State.opsRemain_iff _ e b).1 hops
    cases g with
    | true => exact hafter.gone r b hg
    | false =>
      have hheld := (hafter.live r b hg).1
      rw [show (s.resetScrub.seat e).lock.held = none from (hs.resetScrub_lock e).1] at hheld
      cases hheld

end Sys2Proof.Machine
end

section
/-! The table, the accounts, the registers and the alerts of a soft reset (R14, R18, R23, R48, R106, R188). -/

namespace Sys2Proof.Machine

open Sys2Proof

/-! ## The request table (R48) -/

theorem State.abandon_requestsKept (e : Engine) (s : State) : RequestsKept noneLost s (s.abandon e) := by
  have hset (t : State) (x : EngineLock) (ht : RequestsKept noneLost s t) : RequestsKept noneLost s (t.setLock e x) :=
    (RequestsKept.of_slots (fun _ _ => id) fun _ => rfl).after ht
  have hwithdrawn : RequestsKept noneLost s (s.withdrawn e) :=
    hset (s.marked e) _ (RequestsKept.of_slots (fun _ _ => id) fun _ => rfl)
  exact (requestsKept_frees s).releaseLock e (fun _ => hwithdrawn) (fun _ _ _ => hset _ _ hwithdrawn) fun _ _ _ => hset _ _ hwithdrawn

theorem State.copyStopped_requestsKept (o : CopyOutcome) (s : State) : RequestsKept noneLost s (s.copyStopped o) :=
  (State.abandon_requestsKept .copy _).after (RequestsKept.of_slots (fun _ _ => id) fun _ => rfl)

/-- The end of a copy loses the entries in the list of a READY rebuild target, where the rebuild did not complete. -/
theorem State.copyEnd_requestsKept {o : CopyOutcome} (ho : o ≠ .completed) (s : State) :
    RequestsKept (fun i r => s.copy.kind = .rebuild r ∧ (s.port r).state = .ready ∧ ∃ x ∈ (s.port r).list, x.op.owner = .slot i) s
      (s.copyEnd o) := by
  have hstopped := s.copyStopped_requestsKept o
  refine (RequestsKept.of_keeps (s.copyEnd_handed o) (by decide)).after ?_
  cases hkind : s.copy.kind with
  | none =>
    rw [State.copyHanded_of_none hkind]
    exact hstopped.congr fun i r => by simp [noneLost]
  | fill n =>
    rw [State.copyHanded_of_fill hkind]
    exact ((RequestsKept.of_keeps (State.unmark_keeps _) (by decide)).after hstopped).congr fun i r => by simp [noneLost]
  | rebuild q =>
    rw [State.copyHanded_of_ended hkind ho]
    refine (RequestsKept.before (State.retireCore_requestsKept q .rebuildFailed _) hstopped).congr fun i r => ?_
    rw [CopyKind.rebuild.injEq, eq_comm (a := q)]
    refine and_congr_right fun hr => ?_
    subst hr
    rw [State.copyStopped_port]
    refine and_congr Iff.rfl ?_
    rw [Port.markGone_eq]
    simp

theorem State.resetScrub_requestsKept (s : State) :
    RequestsKept (fun i r => s.rebuildTarget = some r ∧ (s.port r).state = .ready ∧ ∃ x ∈ (s.port r).list, x.op.owner = .slot i) s
      s.resetScrub := by
  have hhealth : RequestsKept noneLost s s.resetHealth := RequestsKept.of_keeps s.resetHealth_keeps (by decide)
  have hafter : RequestsKept noneLost s.resetCopy s.resetScrub :=
    (RequestsKept.of_slots (fun _ _ => id) fun _ => rfl).after ((State.abandon_requestsKept .scrub s.resetRepair).after
      ((RequestsKept.of_slots (fun _ _ => id) fun _ => rfl).after ((State.abandon_requestsKept .repair (s.resetCopy.setQueue [])).after
        (RequestsKept.of_keeps (State.setQueue_keeps [] _) (by decide)))))
  refine hafter.after ?_
  by_cases hidle : s.copy.state = .idle
  · rw [State.resetCopy_of_idle hidle]
    exact hhealth.congr fun i r => by simp [noneLost, State.rebuildTarget_of_idle hidle]
  · rw [State.resetCopy_of_copying hidle]
    refine (RequestsKept.before (State.copyEnd_requestsKept (by decide) _) hhealth).congr fun i r => ?_
    rw [State.resetHealth_copy, State.resetHealth_port, State.rebuildTarget_eq_some_iff]
    simp [hidle]

theorem TableKept.of_rt {s t : State} (h : t.rt = s.rt) : TableKept s t :=
  ⟨by rw [h], by rw [h], by rw [h], by rw [h], fun i => by simp only [State.slot, h]⟩

theorem State.resetScrub_table (s : State) : TableKept s s.resetScrub := by
  have hhealth : TableKept s s.resetHealth := TableKept.of_rt (s.resetHealth_keeps.rt (by decide))
  have hcopy : TableKept s s.resetCopy := by
    by_cases hidle : s.copy.state = .idle
    · rw [State.resetCopy_of_idle hidle]; exact hhealth
    · rw [State.resetCopy_of_copying hidle]; exact hhealth.trans (State.copyEnd_table _ _)
  have hqueue : TableKept s (s.resetCopy.setQueue []) := hcopy.trans (TableKept.of_rt rfl)
  have hrepair : TableKept s s.resetRepair := (hqueue.trans (State.abandon_table .repair _)).trans (TableKept.of_rt rfl)
  exact (hrepair.trans (State.abandon_table .scrub _)).trans (TableKept.of_rt rfl)

/-! ## The oldest requests of the released blocks (R35) -/

theorem wakes_reset (asked : Nat → Prop) (first : Nat → Option SlotId) : ResetKeep Scope.entriesOnly (State.Wakes asked first) where
  toRetireKeep := wakes_retire asked first
  abandon := fun _ _ hsound hs => hs.abandon hsound trivial
  copy := fun _ _ hs => hs.of_slots (fun _ => rfl) rfl (fun _ => rfl) fun _ => rfl
  repair := fun _ _ hs => hs.of_slots (fun _ => rfl) rfl (fun _ => rfl) fun _ => rfl

/-- The oldest request of a block that an engine held does not wait, unless the block drains. -/
theorem State.Sound.resetScrub_wakes {s : State} (hs : s.Steady Scope.entriesOnly) {e : Engine} {b : Nat} (hheld : (s.lock e).held = some b)
    (hfree : ¬s.resetScrub.Drains b) {i : SlotId} (hi : s.oldestFor b = some i) {sl : Slot} (hsl : s.resetScrub.slot i = some sl) :
    sl.state ≠ .waiting := by
  intro hw
  have hstart : s.Wakes (fun b => ∃ e, (s.lock e).held = some b) s.oldestFor :=
    ⟨fun e => (hs.seat e nofun).one, fun _ => rfl, fun _ hb _ _ _ _ _ => .inl hb⟩
  have hend : s.resetScrub.Wakes (fun b => ∃ e, (s.lock e).held = some b) s.oldestFor :=
    ((wakes_reset _ _).resetRepair_abandon hs hstart).of_slots (fun _ => rfl) rfl (fun _ => rfl) fun _ => rfl
  rcases hend.woken b ⟨e, hheld⟩ i sl hi hsl hw with ⟨e', he'⟩ | hd
  · cases (hs.resetScrub_lock e').1.symm.trans he'
  · exact hfree hd

/-! ## Accounts and registers (R18, R23, R106) -/

theorem State.resetHealth_account (s : State) (r : Replica) : s.resetHealth.account r = (s.account r).softReset := by
  rw [State.resetHealth, State.softResetAccounts_account, (State.softClearAlerts_keeps s).account (by decide)]

theorem Account.softReset_of_votes {a : Account} (h : a.votes = true) : a.softReset = { a with state := .healthy, score := 0 } := by
  rcases (Account.votes_iff a).1 h with h | h <;> simp [Account.softReset, h]

theorem Account.softReset_of_not_votes {a : Account} (h : a.votes = false) : a.softReset = a := by
  cases hstate : a.state <;> simp_all [Account.softReset, Account.votes]

theorem Account.softReset_not_suspect (a : Account) : a.softReset.state ≠ .suspect := by
  cases hstate : a.state <;> simp [Account.softReset, hstate]

theorem State.resetCopy_account_of_other {s : State} {r : Replica} (h : s.rebuildTarget ≠ some r) :
    s.resetCopy.account r = (s.account r).softReset := by
  rw [← State.resetHealth_account]
  by_cases hidle : s.copy.state = .idle
  · rw [State.resetCopy_of_idle hidle]
  · rw [State.resetCopy_of_copying hidle]
    refine State.copyEnd_account_of_other ?_ _
    rw [State.resetHealth_copy]
    exact fun hkind => h ((s.rebuildTarget_eq_some_iff r).2 ⟨hidle, hkind⟩)

theorem State.resetCopy_account_of_target {s : State} {r : Replica} (h : s.rebuildTarget = some r) :
    s.resetCopy.account r = { (s.account r).softReset with state := .retired, reason := .rebuildFailed } := by
  obtain ⟨hcopying, hkind⟩ := (s.rebuildTarget_eq_some_iff r).1 h
  rw [State.resetCopy_of_copying hcopying, State.copyEnd_account_of_ended (by rw [State.resetHealth_copy, hkind]) (by decide),
    if_pos rfl, State.resetHealth_account]

theorem State.resetCopy_not_suspect (s : State) (r : Replica) : (s.resetCopy.account r).state ≠ .suspect := by
  by_cases h : s.rebuildTarget = some r
  · rw [State.resetCopy_account_of_target h]; nofun
  · rw [State.resetCopy_account_of_other h]; exact Account.softReset_not_suspect _

/-- The end of a copy that did not complete moves no setting of the health monitor. -/
theorem State.copyEnd_settings {o : CopyOutcome} (ho : o ≠ .completed) (s : State) :
    (s.copyEnd o).health.thresholds = s.health.thresholds ∧ (s.copyEnd o).health.decayTimer = s.health.decayTimer
      ∧ (s.copyEnd o).health.decayInterval = s.health.decayInterval := by
  have hstopped : (s.copyStopped o).health = s.health := (s.copyStopped_keeps o).health (by decide)
  rw [(s.copyEnd_handed o).health (by decide), ← hstopped]
  cases hkind : s.copy.kind with
  | none => rw [State.copyHanded_of_none hkind]; exact ⟨rfl, rfl, rfl⟩
  | fill n => rw [State.copyHanded_of_fill hkind]; exact ⟨rfl, rfl, rfl⟩
  | rebuild r =>
    have hmoved := State.retireCore_healthMoved r .rebuildFailed (s.copyStopped o)
    rw [State.copyHanded_of_ended hkind ho]
    exact ⟨hmoved.thresholds, hmoved.decayTimer, hmoved.decayInterval⟩

theorem State.resetCopy_settings (s : State) : s.resetCopy.health.thresholds = s.health.thresholds
    ∧ s.resetCopy.health.decayTimer = s.health.decayTimer ∧ s.resetCopy.health.decayInterval = s.health.decayInterval := by
  by_cases hidle : s.copy.state = .idle
  · rw [State.resetCopy_of_idle hidle]; exact ⟨rfl, rfl, rfl⟩
  · rw [State.resetCopy_of_copying hidle]; exact State.copyEnd_settings (by decide) s.resetHealth

theorem State.abandon_registers (e : Engine) (s : State) :
    (s.abandon e).ports.replyTimeout = s.ports.replyTimeout ∧ (s.abandon e).ports.runCount = s.ports.runCount := by
  rw [State.abandon_eq_releaseLock, (State.releaseLock_keeps e _).ports (by decide)]
  exact ⟨rfl, rfl⟩

/-- The end of a copy at a soft reset, unlike any other, leaves the run count as it is (R104, R106). -/
theorem State.copyEnd_reset_registers (s : State) : (s.copyEnd .abortedReset).ports.replyTimeout = s.ports.replyTimeout
    ∧ (s.copyEnd .abortedReset).ports.runCount = s.ports.runCount := by
  have hstopped : (s.copyStopped .abortedReset).ports.replyTimeout = s.ports.replyTimeout
      ∧ (s.copyStopped .abortedReset).ports.runCount = s.ports.runCount := State.abandon_registers .copy _
  rw [State.copyEnd_eq, if_pos rfl, State.copyClosed_eq, (State.raise_keeps _ _).ports (by decide), ← hstopped.1, ← hstopped.2]
  cases hkind : s.copy.kind with
  | none => rw [State.copyHanded_of_none hkind]; exact ⟨rfl, rfl⟩
  | fill n => rw [State.copyHanded_of_fill hkind]; exact ⟨rfl, rfl⟩
  | rebuild r =>
    rw [State.copyHanded_of_ended hkind (by decide)]
    exact State.retireCore_registers r .rebuildFailed _

theorem State.resetScrub_registers (s : State) :
    s.resetScrub.ports.replyTimeout = s.ports.replyTimeout ∧ s.resetScrub.ports.runCount = s.ports.runCount := by
  have hcopy : s.resetCopy.ports.replyTimeout = s.ports.replyTimeout ∧ s.resetCopy.ports.runCount = s.ports.runCount := by
    by_cases hidle : s.copy.state = .idle
    · rw [State.resetCopy_of_idle hidle]; exact ⟨rfl, rfl⟩
    · rw [State.resetCopy_of_copying hidle]; exact State.copyEnd_reset_registers s.resetHealth
  obtain ⟨hreply, hrun⟩ := State.abandon_registers .repair (s.resetCopy.setQueue [])
  obtain ⟨hreply', hrun'⟩ := State.abandon_registers .scrub s.resetRepair
  exact ⟨hreply'.trans (hreply.trans hcopy.1), hrun'.trans (hrun.trans hcopy.2)⟩

/-- A copy that ends leaves the regions but for a fill's mark (R157). -/
theorem State.copyEnd_regions {o : CopyOutcome} (ho : o ≠ .completed) (s : State) :
    (∀ n, s.copy.kind = .fill n → (s.copyEnd o).regions = { s.regions with fillMark := none })
      ∧ ((∀ n, s.copy.kind ≠ .fill n) → (s.copyEnd o).regions = s.regions) := by
  refine ⟨fun n hkind => (State.copyEnd_keeps_health_of_fill hkind o).1, fun hkind => ?_⟩
  have hstopped : (s.copyStopped o).regions = s.regions := (s.copyStopped_keeps o).regions (by decide)
  rw [(s.copyEnd_handed o).regions (by decide), ← hstopped]
  cases hk : s.copy.kind with
  | none => rw [State.copyHanded_of_none hk]
  | fill n => exact absurd hk (hkind n)
  | rebuild r => rw [State.copyHanded_of_ended hk ho, (State.retireCore_frame r _ _).regions (by decide)]

theorem State.resetCopy_regions (s : State) :
    (∀ n, s.copy.kind = .fill n → s.copy.state ≠ .idle → s.resetCopy.regions = { s.regions with fillMark := none })
      ∧ (s.copy.state = .idle ∨ (∀ n, s.copy.kind ≠ .fill n) → s.resetCopy.regions = s.regions) := by
  obtain ⟨hfill, hother⟩ := State.copyEnd_regions (o := .abortedReset) (by decide) s.resetHealth
  simp only [State.resetHealth_copy] at hfill hother
  refine ⟨fun n hkind hcopying => ?_, fun h => ?_⟩
  · rw [State.resetCopy_of_copying hcopying, hfill n hkind]
    rfl
  · by_cases hidle : s.copy.state = .idle
    · rw [State.resetCopy_of_idle hidle]; rfl
    · rw [State.resetCopy_of_copying hidle, hother (h.resolve_left hidle)]; rfl

theorem State.resetCopy_descriptors (s : State) : s.resetCopy.regions.descriptors = s.regions.descriptors
    ∧ s.resetCopy.regions.defaultScrub = s.regions.defaultScrub := by
  obtain ⟨hfill, hother⟩ := s.resetCopy_regions
  by_cases h : s.copy.state = .idle ∨ ∀ n, s.copy.kind ≠ .fill n
  · rw [hother h]
    exact ⟨rfl, rfl⟩
  · push Not at h
    obtain ⟨hcopying, n, hkind⟩ := h
    rw [hfill n hkind hcopying]
    exact ⟨rfl, rfl⟩

end Sys2Proof.Machine
end

section
/-! The causes of a soft reset (R180, R182, R188), and SOFT_RESET (R202). -/

namespace Sys2Proof.Machine

open Sys2Proof

/-! ## Causes that the work of a soft reset latches -/

theorem State.softClearAlerts_get (s : State) (c : Cause) :
    s.softClearAlerts.alerts.causes.get c = (s.alerts.causes.get c).softClear := by
  rcases c with r | _ | _ | _ | _ | _ | _ | _
  · cases r <;> rfl
  all_goals rfl

theorem State.resetHealth_get (s : State) (c : Cause) : s.resetHealth.alerts.causes.get c = (s.alerts.causes.get c).softClear :=
  s.softClearAlerts_get c

/-- A condition whose latch is clear latches only where it becomes true. -/
theorem CauseState.setCondition_latch {c : CauseState} {b : Bool} (hlatch : c.latch = false) (hb : b = true → c.condition = true) :
    (c.setCondition b).latch = false := by
  cases b with
  | false => simp [CauseState.setCondition, CauseState.fall, hlatch]; split <;> simp [hlatch]
  | true => simp [CauseState.setCondition, CauseState.rise, hb rfl, hlatch]

theorem dropReplica_length_le (q : List QueueEntry) (r : Replica) (chosen : QueueEntry → Bool) :
    (dropReplica q r chosen).length ≤ q.length := by
  rw [dropReplica_eq]
  exact (List.length_filter_le _ _).trans (List.length_map _).le

/-- The causes that the end of a copy can move. -/
abbrev endedCauses : List Cause := .retire :: .degraded :: .queueFull :: .copyDone :: healthCauses

theorem State.copyEnd_moved {o : CopyOutcome} (ho : o ≠ .completed) (s : State) : AlertsMoved endedCauses s (s.copyEnd o) := by
  have hstopped : AlertsMoved endedCauses s (s.copyStopped o) :=
    AlertsMoved.of_keeps (s.copyStopped_keeps o) (by decide) (by decide)
  have hhanded : AlertsMoved endedCauses s (s.copyHanded o) := by
    cases hkind : s.copy.kind with
    | none => rw [State.copyHanded_of_none hkind]; exact hstopped
    | fill n =>
      rw [State.copyHanded_of_fill hkind]
      exact hstopped.trans (AlertsMoved.of_keeps (State.unmark_keeps _) (by decide) (by decide))
    | rebuild r =>
      rw [State.copyHanded_of_ended hkind ho]
      exact hstopped.trans ((State.retireCore_moved r _ _).mono (by cases r <;> decide))
  have hclosed : AlertsMoved endedCauses s (s.copyClosed o) := by
    rw [State.copyClosed_eq]
    exact hhanded.trans ((State.raise_moved .copyDone _).mono (by decide))
  rw [State.copyEnd_eq]
  split
  · exact hclosed
  · exact hclosed.trans (AlertsMoved.of_keeps (State.settleRunCount_keeps _) (by decide) (by decide))

/-- What a copy that did not complete hands the alert unit: of a rebuild, the retirement of its target (R14, R179). -/
theorem State.copyEnd_causes {o : CopyOutcome} (ho : o ≠ .completed) (s : State) :
    (∀ r, s.copy.kind = .rebuild r → ∀ c, c ≠ .copyDone →
        (s.copyEnd o).alerts.causes.get c = ((s.copyStopped o).retireCore r .rebuildFailed).alerts.causes.get c)
      ∧ ((∀ r, s.copy.kind ≠ .rebuild r) → ∀ c, c ≠ .copyDone → (s.copyEnd o).alerts.causes.get c = s.alerts.causes.get c) := by
  refine ⟨fun r hkind c hc => by rw [State.copyEnd_cause hc, State.copyHanded_of_ended hkind ho], fun hkind c hc => ?_⟩
  rw [State.copyEnd_cause hc, ← State.copyStopped_alerts o s]
  cases hk : s.copy.kind with
  | none => rw [State.copyHanded_of_none hk]
  | fill n => rw [State.copyHanded_of_fill hk]; rfl
  | rebuild r => exact absurd hk (hkind r)

section Causes

variable {s : State} {o : CopyOutcome} (ho : o ≠ .completed)
include ho

theorem State.copyEnd_health_cause (h : ∀ r, s.copy.kind = .rebuild r → (s.account r).state ≠ .suspect) (q : Replica) :
    (s.copyEnd o).alerts.causes.get (.health q) = s.alerts.causes.get (.health q) := by
  obtain ⟨hrebuild, hother⟩ := s.copyEnd_causes ho
  by_cases hkind : ∃ r, s.copy.kind = .rebuild r
  · obtain ⟨r, hkind⟩ := hkind
    rw [hrebuild r hkind _ (by simp), State.retireCore_cause (by simp), ← State.copyStopped_alerts o s]
    by_cases hq : q = r
    · rw [hq, State.retireAccount_health_of_not_suspect _ (by rw [State.copyStopped_account]; exact h r hkind)]
    · exact (State.retireAccount_moved r _ _).others _ (by simp [hq])
  · exact hother (not_exists.1 hkind) _ (by simp)

theorem State.copyEnd_retire_cause : (∀ r, s.copy.kind = .rebuild r → (s.copyEnd o).alerts.causes.retire.latch = true)
    ∧ ((∀ r, s.copy.kind ≠ .rebuild r) → (s.copyEnd o).alerts.causes.retire = s.alerts.causes.retire) := by
  obtain ⟨hrebuild, hother⟩ := s.copyEnd_causes ho
  refine ⟨fun r hkind => ?_, fun hkind => hother hkind .retire (by decide)⟩
  exact (congrArg CauseState.latch (hrebuild r hkind .retire (by decide))).trans (State.retireCore_retire_latch r _ _)

/-- DEGRADED latches only where the target of a rebuild is retired. -/
theorem State.copyEnd_degraded_cause (h : (s.copyEnd o).alerts.causes.degraded ≠ s.alerts.causes.degraded) :
    (s.copyEnd o).votingCount < 3 := by
  by_cases hkind : ∃ r, s.copy.kind = .rebuild r
  · obtain ⟨r, hkind⟩ := hkind
    refine State.votingCount_lt_three (r := r) ?_
    rw [State.copyEnd_account_of_ended hkind ho, if_pos rfl]
    rfl
  · exact absurd ((s.copyEnd_causes ho).2 (not_exists.1 hkind) .degraded (by decide)) h

/-- QUEUE_FULL does not latch where a full queue had its condition already. -/
theorem State.copyEnd_queueFull_latch (hdepth : s.queue.length ≤ 32) (hlatch : s.alerts.causes.queueFull.latch = false)
    (hfull : s.queue.length = 32 → s.alerts.causes.queueFull.condition = true) : (s.copyEnd o).alerts.causes.queueFull.latch = false := by
  obtain ⟨hrebuild, hother⟩ := s.copyEnd_causes ho
  by_cases hkind : ∃ r, s.copy.kind = .rebuild r
  · obtain ⟨r, hkind⟩ := hkind
    have hqueue : (s.copyStopped o).queue = s.queue := (s.copyStopped_keeps o).queue (by decide)
    refine (congrArg CauseState.latch (hrebuild r hkind .queueFull (by decide))).trans ?_
    change ((s.copyStopped o).retireCore r .rebuildFailed).alerts.causes.queueFull.latch = false
    rw [State.retireCore_queueFull, State.copyStopped_alerts]
    refine CauseState.setCondition_latch hlatch fun hlength => hfull ?_
    have hle := dropReplica_length_le s.queue r fun _ => true
    rw [beq_iff_eq, State.retireCore_queue, hqueue] at hlength
    omega
  · exact (congrArg CauseState.latch (hother (not_exists.1 hkind) .queueFull (by decide))).trans hlatch

end Causes

/-! ## The causes before the level conditions are taken -/

theorem State.resetCopy_moved (s : State) : AlertsMoved endedCauses s.resetHealth s.resetCopy := by
  by_cases hidle : s.copy.state = .idle
  · rw [State.resetCopy_of_idle hidle]; exact AlertsMoved.refl _ _
  · rw [State.resetCopy_of_copying hidle]; exact State.copyEnd_moved (by decide) _

theorem State.resetScrub_alerts (s : State) : s.resetScrub.alerts = (s.resetCopy.setQueue []).alerts :=
  (s.resetScrub_keeps.alerts (by decide)).trans ((State.abandon_keeps .repair (s.resetCopy.setQueue [])).alerts (by decide))

theorem State.resetScrub_cause (s : State) {c : Cause} (hc : c ≠ .queueFull) :
    s.resetScrub.alerts.causes.get c = s.resetCopy.alerts.causes.get c := by
  rw [State.resetScrub_alerts]
  exact (State.setQueue_moved [] _).others c (by simpa using hc)

/-- A cause that no end of a copy moves. -/
theorem State.resetScrub_cause_of_other (s : State) {c : Cause} (hc : c ∉ endedCauses) :
    s.resetScrub.alerts.causes.get c = (s.alerts.causes.get c).softClear := by
  have hne : c ≠ .queueFull := fun hn => hc (by rw [hn]; decide)
  rw [State.resetScrub_cause s hne, s.resetCopy_moved.others c hc, State.resetHealth_get]

theorem State.resetScrub_health (s : State) (q : Replica) :
    s.resetScrub.alerts.causes.get (.health q) = (s.alerts.causes.get (.health q)).softClear := by
  rw [State.resetScrub_cause s (by simp), ← State.resetHealth_get]
  by_cases hidle : s.copy.state = .idle
  · rw [State.resetCopy_of_idle hidle]
  · rw [State.resetCopy_of_copying hidle]
    refine State.copyEnd_health_cause (by decide) (fun r _ => ?_) q
    rw [State.resetHealth_account]
    exact Account.softReset_not_suspect _

theorem State.resetScrub_copyDone (s : State) : s.resetScrub.alerts.causes.copyDone.latch = decide (s.copy.state ≠ .idle) := by
  refine (congrArg CauseState.latch (s.resetScrub_cause (c := .copyDone) (by decide))).trans ?_
  by_cases hidle : s.copy.state = .idle
  · rw [State.resetCopy_of_idle hidle, State.resetHealth_get]
    simp [CauseState.softClear, hidle]
  · rw [State.resetCopy_of_copying hidle, State.copyEnd_alerts, State.raise_latch]
    simp [hidle]

theorem State.resetScrub_retire (s : State) : s.resetScrub.alerts.causes.retire.latch = s.rebuildTarget.isSome := by
  refine (congrArg CauseState.latch (s.resetScrub_cause (c := .retire) (by decide))).trans ?_
  change s.resetCopy.alerts.causes.retire.latch = _
  have hclear : s.resetHealth.alerts.causes.retire.latch = false := rfl
  cases htarget : s.rebuildTarget with
  | some r =>
    obtain ⟨hcopying, hkind⟩ := (s.rebuildTarget_eq_some_iff r).1 htarget
    rw [State.resetCopy_of_copying hcopying]
    exact (State.copyEnd_retire_cause (s := s.resetHealth) (by decide)).1 r (by rw [State.resetHealth_copy, hkind])
  | none =>
    by_cases hidle : s.copy.state = .idle
    · rw [State.resetCopy_of_idle hidle]; exact hclear
    · rw [State.resetCopy_of_copying hidle, (State.copyEnd_retire_cause (s := s.resetHealth) (by decide)).2 fun r hkind => ?_]
      · exact hclear
      · rw [State.resetHealth_copy] at hkind
        cases htarget.symm.trans ((s.rebuildTarget_eq_some_iff r).2 ⟨hidle, hkind⟩)

theorem State.resetScrub_degraded {s : State} (h : s.resetScrub.alerts.causes.degraded.latch = true) : s.resetScrub.votingCount < 3 := by
  have hcause : s.resetScrub.alerts.causes.degraded = s.resetCopy.alerts.causes.degraded := s.resetScrub_cause (c := .degraded) (by decide)
  rw [hcause] at h
  rw [s.resetScrub_of_resetCopy.votingCount (by decide)]
  by_cases hidle : s.copy.state = .idle
  · rw [State.resetCopy_of_idle hidle] at h
    cases h
  · rw [State.resetCopy_of_copying hidle] at h ⊢
    refine State.copyEnd_degraded_cause (by decide) fun heq => ?_
    rw [heq] at h
    cases h

theorem State.AlertsWf.resetScrub_queueFull {s : State} (h : s.AlertsWf) (hq : s.QueueWf) :
    s.resetScrub.alerts.causes.queueFull.latch = false := by
  have hcopy : s.resetCopy.alerts.causes.queueFull.latch = false := by
    by_cases hidle : s.copy.state = .idle
    · rw [State.resetCopy_of_idle hidle]; rfl
    · rw [State.resetCopy_of_copying hidle]
      exact State.copyEnd_queueFull_latch (s := s.resetHealth) (by decide) hq.depth rfl h.queueFull.2
  rw [State.resetScrub_alerts, State.setQueue_queueFull]
  exact CauseState.setCondition_latch hcopy nofun

/-! ## The level conditions (R188) -/

theorem State.retakeConditions_moved (s : State) :
    AlertsMoved (.queueFull :: .degraded :: healthCauses) s s.retakeConditions := by
  unfold State.retakeConditions
  exact (((((State.updateCause_moved (.health .a) _ _).mono (by decide)).trans ((State.updateCause_moved (.health .b) _ _).mono (by decide))).trans
    ((State.updateCause_moved (.health .c) _ _).mono (by decide))).trans ((State.updateCause_moved .queueFull _ _).mono (by decide))).trans
    ((State.updateCause_moved .degraded _ _).mono (by decide))

theorem State.retakeConditions_health (s : State) (r : Replica) :
    s.retakeConditions.alerts.causes.get (.health r) =
      (s.alerts.causes.get (.health r)).retakeHealth (s.account r).alertMode (decide ((s.account r).state = .suspect)) := by
  cases r <;> rfl

theorem State.retakeConditions_queueFull (s : State) :
    s.retakeConditions.alerts.causes.queueFull = (s.alerts.causes.queueFull).retake (s.queue.length == 32) := rfl

theorem State.retakeConditions_degraded (s : State) :
    s.retakeConditions.alerts.causes.degraded = (s.alerts.causes.degraded).retake (decide (s.votingCount < 3)) := rfl

/-- A cause of the health monitor without a condition is CLEAR when its condition is taken after a soft reset. -/
theorem CauseState.retakeHealth_softClear (m : AlertMode) (c : CauseState) : c.softClear.retakeHealth m false = .clear := by
  cases m <;> rfl

theorem CauseState.retake_of_latch {c : CauseState} {b : Bool} (h : c.latch = true → b = true) :
    c.retake b = { latch := b, condition := b, acked := false } := by
  cases hlatch : c.latch <;> cases b <;> simp_all [CauseState.retake]

end Sys2Proof.Machine
end

section
/-! SOFT_RESET (R202), block by block. -/

namespace Sys2Proof.Machine

open Sys2Proof

/-! ## The state that a soft reset leaves -/

theorem State.resetAll_rt (s : State) : s.resetAll.rt = s.resetScrub.rt := s.resetAll_keeps.rt (by decide)

theorem State.resetAll_account (s : State) (r : Replica) : s.resetAll.account r = s.resetCopy.account r :=
  (s.resetAll_keeps.account (by decide) r).trans (s.resetScrub_of_resetCopy.account (by decide) r)

/-- What a soft reset makes of an account (R18, R23). -/
theorem State.RebuildWf.resetAll_account {s : State} (h : s.RebuildWf) (r : Replica) :
    ((s.account r).votes = true → s.resetAll.account r = { s.account r with state := .healthy, score := 0 })
      ∧ ((s.account r).state = .retired → s.resetAll.account r = s.account r)
      ∧ ((s.account r).state = .rebuilding →
          s.resetAll.account r = { s.account r with state := .retired, reason := .rebuildFailed }) := by
  have hnot (hstate : (s.account r).state ≠ .rebuilding) : s.resetAll.account r = (s.account r).softReset := by
    rw [State.resetAll_account, State.resetCopy_account_of_other (mt (h r).2 hstate)]
  refine ⟨fun hvotes => ?_, fun hstate => ?_, fun hstate => ?_⟩
  · rw [hnot fun hn => by simp [Account.votes, hn] at hvotes, Account.softReset_of_votes hvotes]
  · rw [hnot (by rw [hstate]; decide), Account.softReset_of_not_votes (by simp [Account.votes, hstate])]
  · rw [State.resetAll_account, State.resetCopy_account_of_target ((h r).1 hstate),
      Account.softReset_of_not_votes (by simp [Account.votes, hstate])]

/-- The walker starts again from block 0, or stays OFF (R139). -/
theorem State.Walks.softReset {w : Scrub} {t : State} (h : t.Walks w) :
    t.scrub.softReset.passCount = w.passCount ∧ t.scrub.softReset.on = w.on ∧ t.scrub.softReset.interval = w.interval
      ∧ (w.on = true → t.scrub.softReset.state = .waiting ∧ t.scrub.softReset.timer = some w.interval)
      ∧ (w.on = false → t.scrub.softReset.state = .off ∧ t.scrub.softReset.timer = none) := by
  refine ⟨h.passCount, h.on, h.interval, fun hon => ?_, fun hon => ?_⟩
  · simp [Scrub.softReset, h.on, h.interval, hon]
  · simp [Scrub.softReset, h.on, hon]

/-- The session closes, a pending base taken (R193, R194). -/
theorem State.resetAll_session (s : State) : s.resetAll.session =
    { s.session with
      state := .closed, idleTimer := none, base := s.session.pendingBase.getD s.session.base, pendingBase := none } := by
  have hcopy : s.resetCopy.session = s.session :=
    ((State.softResetCopy_keeps s.resetHealth).session (by decide)).trans (s.resetHealth_keeps.session (by decide))
  have hbefore : s.resetScrub.softResetRecords.retakeConditions.session = s.session :=
    ((State.retakeConditions_keeps _).session (by decide)).trans ((s.resetScrub_of_resetCopy.session (by decide)).trans hcopy)
  rw [← hbefore]
  rfl

/-! ## Its alerts (R188) -/

theorem State.resetAll_cause (s : State) {c : Cause} (hc : c ∉ Cause.queueFull :: .degraded :: healthCauses) :
    s.resetAll.alerts.causes.get c = s.resetScrub.alerts.causes.get c := s.resetScrub.softResetRecords.retakeConditions_moved.others c hc

theorem State.resetAll_enable (s : State) : s.resetAll.alerts.enable = s.alerts.enable := by
  have hscrub : s.resetScrub.alerts.enable = s.resetCopy.alerts.enable := by
    rw [State.resetScrub_alerts]
    exact (State.setQueue_moved [] _).enable
  exact s.resetScrub.softResetRecords.retakeConditions_moved.enable.trans (hscrub.trans s.resetCopy_moved.enable)

theorem State.resetAll_health (s : State) (r : Replica) : s.resetAll.alerts.causes.get (.health r) = .clear := by
  have hcalm : (s.resetScrub.account r).state ≠ .suspect := by
    rw [s.resetScrub_of_resetCopy.account (by decide)]
    exact s.resetCopy_not_suspect r
  refine (State.retakeConditions_health s.resetScrub.softResetRecords r).trans ?_
  change (s.resetScrub.alerts.causes.get (.health r)).retakeHealth _ (decide ((s.resetScrub.account r).state = .suspect)) = _
  rw [decide_eq_false hcalm, State.resetScrub_health, CauseState.retakeHealth_softClear]

theorem State.resetAll_degraded (s : State) : s.resetAll.alerts.causes.degraded =
    { latch := decide (s.resetAll.votingCount < 3), condition := decide (s.resetAll.votingCount < 3), acked := false } := by
  have hcount : s.resetAll.votingCount = s.resetScrub.votingCount := s.resetAll_keeps.votingCount (by decide)
  rw [hcount]
  refine (State.retakeConditions_degraded s.resetScrub.softResetRecords).trans ?_
  exact CauseState.retake_of_latch (c := s.resetScrub.alerts.causes.degraded) fun hlatch => decide_eq_true (State.resetScrub_degraded hlatch)

theorem State.AlertsWf.resetAll_queueFull {s : State} (h : s.AlertsWf) (hq : s.QueueWf) :
    s.resetAll.alerts.causes.queueFull = .clear := by
  have hempty : s.resetScrub.queue = [] := (s.resetScrub_keeps.queue (by decide)).trans
    ((State.abandon_keeps .repair (s.resetCopy.setQueue [])).queue (by decide))
  refine (State.retakeConditions_queueFull s.resetScrub.softResetRecords).trans ?_
  change CauseState.retake (s.resetScrub.queue.length == 32) s.resetScrub.alerts.causes.queueFull = _
  rw [hempty]
  exact CauseState.retake_of_latch fun hlatch => nomatch (h.resetScrub_queueFull hq).symm.trans hlatch

theorem State.resetAll_latch_of_other (s : State) {c : Cause} (hc : c ∉ endedCauses) :
    (s.resetAll.alerts.causes.get c).latch = false := by
  have hsub : Cause.queueFull :: .degraded :: healthCauses ⊆ endedCauses := by decide
  rw [State.resetAll_cause s fun hn => hc (hsub hn), State.resetScrub_cause_of_other s hc]
  rfl

/-- Settles O26: each block's part by what the others leave of it, the locks and draining holds by the engines' invariant. -/
theorem softResetActsOnEveryBlock : Obligations.SoftResetActsOnEveryBlock := by
  unfold Obligations.SoftResetActsOnEveryBlock
  intro s tag v hready hrebuild hengines hholds halerts hqueue
  have hsteady := hengines.steady_entries hholds
  have hkeeps := s.resetAll_keeps
  have htable := s.resetScrub_table
  have hslot (i : SlotId) : s.resetAll.slot i = s.resetScrub.slot i := hkeeps.slot (by decide) i
  have hport (r : Replica) : s.resetAll.port r = s.resetScrub.port r := hkeeps.port (by decide) r
  have hlock (e : Engine) : s.resetAll.lock e = s.resetScrub.lock e := hkeeps.lock (by decide) e
  have hdrains (b : Nat) : s.resetAll.Drains b ↔ s.resetScrub.Drains b := by simp only [State.Drains, hlock]
  have hrt := s.resetAll_rt
  have hlater := s.resetScrub_of_resetCopy
  obtain ⟨t, ht, htaken⟩ := State.acceptWordWrite_settled (k := 49) (v := v) hready (by decide) (.inl rfl) rfl
    s.commandSoftReset_eq_resetAll ((congrArg RequestTable.holding hrt).trans htable.holding)
  obtain ⟨hthresholds, htimer, hinterval⟩ := s.resetCopy_settings
  obtain ⟨hreply, hrun⟩ := s.resetScrub_registers
  obtain ⟨c, hstands, -, hidle, hcopying⟩ := hsteady.resetCopy_stands
  have hcopy : s.resetAll.copy = c := (hkeeps.copy (by decide)).trans hstands.resetScrub.copy
  have hrepair : s.resetAll.repair = Repair.idle := (hkeeps.repair (by decide)).trans hsteady.resetScrub_repair
  have hscrub : s.resetAll.scrub = (s.resetRepair.abandon .scrub).scrub.softReset := hkeeps.scrub (by decide)
  obtain ⟨hpass, hon, hevery, hstarts, hoff⟩ := hsteady.resetScrub_walks.softReset
  have hhealth : s.resetAll.health = s.resetCopy.health := (hkeeps.health (by decide)).trans (hlater.health (by decide))
  have hregions : s.resetAll.regions = s.resetCopy.regions := (hkeeps.regions (by decide)).trans (hlater.regions (by decide))
  have hports : s.resetAll.ports = s.resetScrub.ports := hkeeps.ports (by decide)
  have hframe := s.commandSoftReset_keeps
  rw [State.commandSoftReset_eq_resetAll] at hframe
  obtain ⟨hfill, hnofill⟩ := s.resetCopy_regions
  obtain ⟨hdescriptors, hdefault⟩ := s.resetCopy_descriptors
  refine ⟨s.resetAll, t, congrArg Host.Outcome.next ht, htaken, hrebuild.resetAll_account, ?thresholds, ?timer, ?interval,
    fun h => hcopy.trans (hidle h), fun h => hcopy.trans (hcopying h), ?queue, by rw [hrepair]; rfl, by rw [hrepair]; rfl,
    by rw [hscrub]; rfl, by rw [hscrub]; rfl, by rw [hscrub, hpass], by rw [hscrub]; rfl, by rw [hscrub, hon], by rw [hscrub, hevery],
    by rw [hscrub]; exact hstarts, by rw [hscrub]; exact hoff, rfl, fun e => by rw [hlock]; exact hsteady.resetScrub_lock e,
    ⟨fun r h => by rw [hport]; exact State.resetScrub_port_of_other h, fun r htarget hready' => ?target⟩, ?requests, fun e b => ?draining,
    fun e b hheld hfree pre i post sl horder hsl hb hpre sl' hsl' => ?wakes, by rw [hports, hreply], by rw [hports, hrun],
    by rw [hrt, htable.holding], by rw [hrt, htable.acceptOrder], by rw [hrt, htable.answerOrder], by rw [hrt, htable.channel],
    ?descriptors, ?defaultScrub, fun n hkind hbusy => by rw [hregions, hfill n hkind hbusy], fun h => by rw [hregions, hnofill h],
    s.resetAll_enable, s.resetAll_degraded, halerts.resetAll_queueFull hqueue, s.resetAll_health, ?copyDone, ?retire,
    s.resetAll_latch_of_other (c := .dataLoss) (by decide), s.resetAll_latch_of_other (c := .recordsLost) (by decide),
    s.resetAll_latch_of_other (c := .sessionExpired) (by decide), ?session, hframe.pins (by decide), hframe.freeIndex (by decide),
    hframe.pending (by decide)⟩
  case thresholds => rw [hhealth, hthresholds]
  case timer => rw [hhealth, htimer]
  case interval => rw [hhealth, hinterval]
  case queue =>
    rw [hkeeps.queue (by decide), s.resetScrub_keeps.queue (by decide)]
    exact (State.abandon_keeps .repair (s.resetCopy.setQueue [])).queue (by decide)
  case target => rw [hport, State.resetScrub_port_of_target htarget hready']; rfl
  case requests => exact (RequestsKept.of_keeps hkeeps (by decide)).after s.resetScrub_requestsKept
  case draining =>
    rw [hlock, hholds.resetScrub_draining hsteady]
    simp only [State.OpsRemain, hport]
  case wakes =>
    refine hsteady.resetScrub_wakes hheld (mt (hdrains b).2 hfree) (State.oldestFor_eq_some horder hsl hb hpre) ?_
    rw [← hslot, hsl']
  case descriptors => rw [hregions, hdescriptors]
  case defaultScrub => rw [hregions, hdefault]
  case copyDone =>
    exact (congrArg CauseState.latch (s.resetAll_cause (c := .copyDone) (by decide))).trans s.resetScrub_copyDone
  case retire => exact (congrArg CauseState.latch (s.resetAll_cause (c := .retire) (by decide))).trans s.resetScrub_retire
  case session => exact s.resetAll_session

end Sys2Proof.Machine
end
